-- ==== Sys2Proof/Word.lean ====
section
/-! DEFINITION. The byte and the byte string (00_scope.md R7). -/

namespace Sys2Proof

/-- A byte is 8 bits, bit 7 the most significant (R7). -/
abbrev Byte := BitVec 8

/-- A byte string `B`, of length `|B|` and bytes `B[0] .. B[|B|-1]` (R7). -/
abbrev Bytes := List Byte

end Sys2Proof
end

