-- ==== Sys2Proof/Config.lean ====
section
/-! DEFINITION. The parameters of 00_scope.md R6: fixed values, the two decided ones, and the one
the spec leaves OPEN, which is opaque. -/

namespace Sys2Proof.Config

/-- HDR_BYTES: a header is 8 bytes (R6, R80). -/
def hdrBytes : Nat := 8

/-- VERSION_RECHECK, decided true (R6, D8). The version check takes it as an argument, so that the
value false, the source's own behaviour, can be spoken of too. DESIGN CHOICE of the spec, log entry 5. -/
def versionRecheck : Bool := true

/-- REQUIRE_REQUEST_LINE, decided false (R6, D23); only the body-decoder contract reads it (R212).
Log entry 5. -/
def requireRequestLine : Bool := false

/-- KV_BUF_MAX, the largest decompressed buffer in bytes, `none` for unbounded. The spec leaves it
OPEN (R6, D21): no proof can see its value. Log entry 6. -/
opaque kvBufMax : Option Nat

end Sys2Proof.Config
end

