-- ==== Sys2Proof/Syntax.lean ====
section
/-! DEFINITION. The instructions: frame headers, one constructor per header class of
spec/opcode_table.json, with the fields of 30_encoding.md R82 to R84; the decoded header
record of 40_header_decoder.md R110; and the selectors of 43_dispatch.md R210. -/

namespace Sys2Proof

/-- A frame header, by header class (30_encoding.md R86). `version` is W[62:48], `id` is W[62:32],
`flags` is W[31:24], `length` is W[23:0]; the type W[47:32] is fixed by the constructor, but for
`unknown`, which carries it. -/
inductive Instr where
  | data (id : BitVec 31) (flags : BitVec 8) (length : BitVec 24)
  | synStream (version : BitVec 15) (flags : BitVec 8) (length : BitVec 24)
  | synReply (version : BitVec 15) (flags : BitVec 8) (length : BitVec 24)
  | rstStream (version : BitVec 15) (flags : BitVec 8) (length : BitVec 24)
  | settings (version : BitVec 15) (flags : BitVec 8) (length : BitVec 24)
  | noop (version : BitVec 15) (flags : BitVec 8) (length : BitVec 24)
  | ping (version : BitVec 15) (flags : BitVec 8) (length : BitVec 24)
  | goaway (version : BitVec 15) (flags : BitVec 8) (length : BitVec 24)
  | headers (version : BitVec 15) (flags : BitVec 8) (length : BitVec 24)
  | windowUpdate (version : BitVec 15) (flags : BitVec 8) (length : BitVec 24)
  | xForwarded (version : BitVec 15) (flags : BitVec 8) (length : BitVec 24)
  | unknown (version : BitVec 15) (type : BitVec 16) (flags : BitVec 8) (length : BitVec 24)
deriving DecidableEq, Repr

/-- The FrameHeader record that HDR_DECODE answers (R110). Absent fields are `none`, never 0 (R117);
a version is 15 bits held in 16, an id 31 bits held in 32 (R88). -/
structure FrameHeader where
  control : Bool
  version : Option (BitVec 16)
  type : Option (BitVec 16)
  id : Option (BitVec 32)
  flags : BitVec 8
  length : BitVec 24
deriving DecidableEq, Repr

/-- The nine header classes whose bodies the body decoder decodes (R136, R210). -/
inductive BodyClass where
  | synStream | synReply | rstStream | settings | ping | goaway | headers | windowUpdate | xForwarded
deriving DecidableEq, Repr

/-- The dispatch selector SEL(type) of a control header (R210): a body decoder's class, or one of
the two control classes the block handles itself. -/
inductive Sel where
  | decoder (c : BodyClass)
  | noop
  | unknown
deriving DecidableEq, Repr

/-- A header class (30_encoding.md R86). -/
inductive HeaderClass where
  | data
  | control (sel : Sel)
deriving DecidableEq, Repr

end Sys2Proof
end

