-- ==== Sys2Proof/Machine/State.lean ====
section
/-! DEFINITION. The state of the block (10_state.md R21 to R35), the values on its ports
(R40 to R47), the reasons a step can stop, and the state after reset (R49). -/

namespace Sys2Proof.Machine

/-! ### Register values -/

/-- PHASE (R22): HDR and BODY are the source's two phases, BUSY is a control body being decoded,
ERROR and FATAL are the two error phases. Here and below, an enumeration of the values a register can
hold: DESIGN CHOICE, safe, log entry 15. -/
inductive Phase where
  | hdr | body | busy | error | fatal
deriving DecidableEq, Repr

/-- KV_STATE (R28). -/
inductive KvState where
  | idle | decomp | count | nlen | name | vlen | value
deriving DecidableEq, Repr

/-- ERR, the code of the last reported error (R27, R250). -/
inductive ErrCode where
  | none | unsupportedVersion | frameTruncated | headerBlockTruncated | codecError
deriving DecidableEq, Repr

/-- KV_W: 2 or 4 bytes, and no other value (R29). -/
inductive KvWidth where
  | two | four
deriving DecidableEq, Repr

/-- KV_PAIRS, the ordered (name, value) list (R35). -/
abbrev Pairs := List (Bytes × Bytes)

/-! ### Errors on the ports -/

/-- The payload of a CodecError: the codec's own, opaque to the block (R254), or the block's
BufferOverflow (R172, D21). The spec gives the codec's payload no form (91_not_in_source.md N18): that
it is a byte string, and that it is told from BufferOverflow, is the model's DESIGN CHOICE, unsafe, log
entry 17. -/
inductive CodecPayload where
  | codec (payload : Bytes)
  | bufferOverflow
deriving DecidableEq, Repr

/-- An error as FAIL carries it (R42, R250): UnsupportedVersion with the offending 15-bit version,
CodecError with its payload. -/
inductive Err where
  | unsupportedVersion (version : BitVec 15)
  | frameTruncated
  | headerBlockTruncated
  | codecError (payload : CodecPayload)
deriving DecidableEq, Repr

/-- A code that BODY_ERR may carry (R43). -/
inductive BodyErr where
  | frameTruncated
  | headerBlockTruncated
  | codecError (payload : CodecPayload)
deriving DecidableEq, Repr

/-- A code that KV_ERR may carry (R45). -/
inductive KvErr where
  | headerBlockTruncated
  | codecError (payload : CodecPayload)
deriving DecidableEq, Repr

/-! ### Frames (R47) -/

/-- One SETTINGS entry's value and its two flags (R215). -/
structure SettingsEntry where
  value : BitVec 32
  persist : Bool
  persisted : Bool
deriving DecidableEq, Repr

/-- A Frame: the block builds `data`, `noop` and `unknown`, the body decoder the other nine, which
the block passes on unchanged (R47). `settings` is a finite map, listed by rising id. -/
inductive Frame where
  | data (id : BitVec 31) (fin compressed : Bool) (payload : Bytes)
  | synStream (id assocId : BitVec 31) (priority : BitVec 3) (fin unidir : Bool) (headers : Pairs)
      (url : Bytes)
  | synReply (id : BitVec 31) (fin : Bool) (headers : Pairs) (url : Bytes)
  | rstStream (id : BitVec 31) (status : BitVec 32) (extra : Option Bytes)
  | settings (entries : List (BitVec 24 × SettingsEntry))
  | ping (pingId : BitVec 32)
  | goaway (lastId : BitVec 31)
  | headers (id : BitVec 31) (headers : Pairs)
  | windowUpdate (id delta : BitVec 31)
  | xForwarded (host : Bytes)
  | unknown (type : BitVec 16) (body : Bytes)
  | noop
deriving DecidableEq, Repr

/-! ### Transactions -/

/-- An output transaction: EMIT and FAIL (R42), DISPATCH (R43), DECOMP_REQ (R44), KV_DONE and
KV_ERR (R45). -/
inductive Output where
  | emit (frame : Frame)
  | fail (e : Err)
  | dispatch (c : BodyClass) (hdr : FrameHeader) (body : Bytes) (ver : Option (BitVec 15))
  | decompReq (cbytes : Bytes) (ver : BitVec 15)
  | kvDone (pairs : Pairs)
  | kvErr (e : KvErr)
deriving DecidableEq, Repr

/-- What happens next at the block's boundary: the input transactions of R94; `advance`, a moment
at which no host presents anything and the block takes the step it has, if any (R20); and
`withdraw`, the transport dropping the SUPPLY that has waited longest (95_test_vectors.md P3).
Log entry 1. -/
inductive Event where
  | supply (bytes : Bytes)
  | bodyDone (frame : Frame)
  | bodyErr (e : BodyErr)
  | kvStart (cbytes : Bytes)
  | decompOk (dbytes : Bytes)
  | decompErr (payload : Bytes)
  | resume
  | reset
  | advance
  | withdraw
deriving DecidableEq, Repr

/-! ### The state -/

/-- The registers of R21, then the transactions at the ports. -/
structure State where
  /-- PHASE (R22) -/
  phase : Phase
  /-- NEED (R23) -/
  need : BitVec 24
  /-- VER_VALID (R24) -/
  verValid : Bool
  /-- VER (R24) -/
  ver : BitVec 15
  /-- HDR_REG (R25) -/
  hdrReg : BitVec 64
  /-- BODY_BUF (R26) -/
  bodyBuf : Bytes
  /-- ERR (R27) -/
  err : ErrCode
  /-- KV_STATE (R28) -/
  kvState : KvState
  /-- KV_W (R29) -/
  kvW : KvWidth
  /-- KV_BUF (R30) -/
  kvBuf : Bytes
  /-- KV_POS (R31) -/
  kvPos : Nat
  /-- KV_REM (R32) -/
  kvRem : BitVec 32
  /-- KV_NLEN (R33) -/
  kvNlen : BitVec 32
  /-- KV_VLEN (R33) -/
  kvVlen : BitVec 32
  /-- KV_NAME (R34) -/
  kvName : Bytes
  /-- KV_PAIRS (R35) -/
  kvPairs : Pairs
  /-- SUPPLY transactions presented and not yet accepted, oldest first (R40, R141). Log entry 1. -/
  supplyPort : List Bytes
  /-- What the hosts do next, in order (R20, R73). The model's own field, log entry 1. -/
  events : List Event
  /-- Output transactions signalled so far, oldest first (R11). The model's own field, log entry 2. -/
  outputs : List Output
deriving DecidableEq, Repr

/-- The state after RESET, which is also the state at power-on (R49, R281). HDR_REG, KV_W, KV_POS,
KV_REM, KV_NLEN, KV_VLEN and KV_NAME are unspecified there and hold named values: DESIGN CHOICE,
unsafe, log entry 4. Nothing is presented and nothing has been signalled. -/
def State.reset : State :=
  { phase := .hdr
    need := 8
    verValid := false
    ver := 0
    hdrReg := 0
    bodyBuf := []
    err := .none
    kvState := .idle
    kvW := .two
    kvBuf := []
    kvPos := 0
    kvRem := 0
    kvNlen := 0
    kvVlen := 0
    kvName := []
    kvPairs := []
    supplyPort := []
    events := []
    outputs := [] }

/-! ### How a step can stop -/

/-- The machine's faults. The spec's own errors are not among them: they are next states
(60_exceptions.md R256). -/
inductive Fault where
  /-- An integer or substring read outside its buffer, where 00_scope.md R8 leaves `be` undefined.
  Raised by `memRead` and `memSlice` in Machine/Operands.lean. Safe; every use is behind a bounds
  check (R8, R69), so no step raises it. -/
  | readPastEnd
deriving DecidableEq, Repr

/-- What the spec refuses: "the model gives the transaction no meaning: no step exists" (R10, D4).
DEDUCED, safe, log entry 10. -/
inductive Refusal where
  /-- `exec`'s answer for an instruction that has no meaning yet. Safe. -/
  | notModelled (mnemonic : String)
  /-- A SUPPLY with SUPPLY_READY = 1 and |bytes| ≠ NEED (41_frame_controller.md R142). Raised where
  a chunk is accepted. Safe. -/
  | wrongLengthSupply
  /-- A BODY_DONE or BODY_ERR unless PHASE = BUSY and KV_STATE = IDLE (10_state.md R43, R137, R138).
  Raised by `bodyDone` and `bodyErr`. Safe. -/
  | bodyAnswerNotAwaited
  /-- A KV_START unless PHASE = BUSY, KV_STATE = IDLE and VER_VALID = 1 (R45, R171). Raised by
  `kvStart`. Safe. -/
  | kvStartNotAccepted
  /-- A DECOMP_OK or DECOMP_ERR unless KV_STATE = DECOMP (R44, R172, R173). Raised by `decompOk` and
  `decompErr`. Safe. -/
  | codecAnswerNotAwaited
  /-- A RESUME unless PHASE = ERROR (R46, R139). Raised by `resume`. Safe. -/
  | resumeOutsideError
deriving DecidableEq, Repr

/-- The outcome of one step of the block. -/
abbrev Result := Host.Outcome State Fault Refusal

end Sys2Proof.Machine
end

