-- ==== Sys2Proof/Machine/Flags.lean ====
section
/-! DEFINITION. The named bits of the header flags byte (10_state.md R37) and the read-only status
views STATUS and NEED_R (R38). -/

namespace Sys2Proof.Machine

/-! ### The header flags byte -/

/-- Flags bit 0: `fin`, for data, SYN_STREAM and SYN_REPLY headers (R37). -/
def flagFin (flags : BitVec 8) : Bool := flags.getLsbD 0

/-- Flags bit 1 of a data header: `compressed` (R37). -/
def flagCompressed (flags : BitVec 8) : Bool := flags.getLsbD 1

/-- Flags bit 1 of a SYN_STREAM header: `unidir` (R37). -/
def flagUnidir (flags : BitVec 8) : Bool := flags.getLsbD 1

/-! ### Encodings of the enumerated registers -/

/-- The 3-bit encoding of PHASE (R22). -/
def phaseCode : Phase → BitVec 3
  | .hdr => 0 | .body => 1 | .busy => 2 | .error => 3 | .fatal => 4

/-- The 3-bit encoding of KV_STATE (R28). -/
def kvStateCode : KvState → BitVec 3
  | .idle => 0 | .decomp => 1 | .count => 2 | .nlen => 3 | .name => 4 | .vlen => 5 | .value => 6

/-- The 3-bit encoding of ERR (R250). -/
def errCodeBits : ErrCode → BitVec 3
  | .none => 0 | .unsupportedVersion => 1 | .frameTruncated => 2 | .headerBlockTruncated => 3
  | .codecError => 4

/-! ### Views -/

/-- SUPPLY_READY = (PHASE ∈ HDR, BODY) (R23). -/
def supplyReady (s : State) : Bool :=
  match s.phase with
  | .hdr | .body => true
  | .busy | .error | .fatal => false

/-- VER as software sees it: 0 while VER_VALID = 0 (R24, R38). -/
def verView (s : State) : BitVec 15 := if s.verValid then s.ver else 0

/-- STATUS (R38), most significant field first: reserved 31:26, KV_STATE 25:23, VER 22:8,
reserved 7, ERR 6:4, VER_VALID 3, PHASE 2:0. -/
def statusView (s : State) : BitVec 32 :=
  0#6 ++ kvStateCode s.kvState ++ verView s ++ 0#1 ++ errCodeBits s.err ++ BitVec.ofBool s.verValid
    ++ phaseCode s.phase

/-- NEED_R (R38): reserved 31:25, SUPPLY_READY 24, NEED 23:0. -/
def needView (s : State) : BitVec 32 :=
  0#7 ++ BitVec.ofBool (supplyReady s) ++ s.need

end Sys2Proof.Machine
end

