-- ==== Sys2Proof/WellFormed.lean ====
section
/-! DEFINITION. Which terms of `Instr` are headers: an `unknown` header's type is none of the ten
listed types (30_encoding.md R86, R87). Every other field is legal at every value (R84, R90, R91). -/

namespace Sys2Proof

/-- The ten type codes of R87. -/
def listedTypes : List (BitVec 16) :=
  [0x0001, 0x0002, 0x0003, 0x0004, 0x0005, 0x0006, 0x0007, 0x0008, 0x0009, 0xF000]

/-- A header term stands for a header. -/
def Instr.wf : Instr → Bool
  | .unknown _ type _ _ => !listedTypes.contains type
  | .data _ _ _ | .synStream _ _ _ | .synReply _ _ _ | .rstStream _ _ _ | .settings _ _ _
  | .noop _ _ _ | .ping _ _ _ | .goaway _ _ _ | .headers _ _ _ | .windowUpdate _ _ _
  | .xForwarded _ _ _ => true

end Sys2Proof
end

