-- ==== Sys2Proof/Decode.lean ====
section
/-! DEFINITION. Integer reads (00_scope.md R8), the header decoder HDR_DECODE
(40_header_decoder.md), header-class selection (30_encoding.md R86), the decoder and the encoder of
header words, and the header literals of R95. -/

namespace Sys2Proof

/-! ### Integer reads (R8) -/

/-- The unsigned big-endian integer of a whole byte string. -/
def beAll (b : Bytes) : Nat := b.foldl (fun acc x => acc * 256 + x.toNat) 0

/-- `B[a .. a+n)` (R7). -/
def slice (b : Bytes) (off n : Nat) : Bytes := (b.drop off).take n

/-- `be(B, o, n)`: the big-endian integer of `B[o .. o+n)`; the spec defines it when `o + n ≤ |B|` (R8). -/
def be (b : Bytes) (off n : Nat) : Nat := beAll (slice b off n)

/-- `le(B, o, n)`, the little-endian reading, which only the SETTINGS contract uses (R8, R215). -/
def le (b : Bytes) (off n : Nat) : Nat := beAll (slice b off n).reverse

/-- The header word W = be(hdr, 0, 8) (R81). -/
def wordOfBytes (hdr : Bytes) : BitVec 64 := BitVec.ofNat 64 (be hdr 0 8)

/-- The 8 bytes of W in arrival order: bit 63 of W is bit 7 of the first byte (R81). -/
def bytesOfWord (w : BitVec 64) : Bytes :=
  [w.extractLsb' 56 8, w.extractLsb' 48 8, w.extractLsb' 40 8, w.extractLsb' 32 8,
   w.extractLsb' 24 8, w.extractLsb' 16 8, w.extractLsb' 8 8, w.extractLsb' 0 8]

/-! ### Fields (R82, R83, R88, R111 to R116) -/

/-- W[63], the control flag (R111). -/
def controlField (w : BitVec 64) : Bool := w.getLsbD 63

/-- W[62:48], the version of a control header (R112). -/
def versionField (w : BitVec 64) : BitVec 15 := w.extractLsb' 48 15

/-- W[47:32], the type of a control header (R114). -/
def typeField (w : BitVec 64) : BitVec 16 := w.extractLsb' 32 16

/-- W[62:32], the stream id of a data header (R113). -/
def idField (w : BitVec 64) : BitVec 31 := w.extractLsb' 32 31

/-- W[31:24], the flags byte (R115). -/
def flagsField (w : BitVec 64) : BitVec 8 := w.extractLsb' 24 8

/-- W[23:0], the body length (R116). -/
def lengthField (w : BitVec 64) : BitVec 24 := w.extractLsb' 0 24

/-! ### HDR_DECODE (R110) -/

/-- HDR_DECODE on the header word: total, raises nothing (R110, R118). -/
def hdrDecode (w : BitVec 64) : FrameHeader :=
  if controlField w then
    { control := true
      version := some ((versionField w).setWidth 16)
      type := some (typeField w)
      id := none
      flags := flagsField w
      length := lengthField w }
  else
    { control := false
      version := none
      type := none
      id := some ((idField w).setWidth 32)
      flags := flagsField w
      length := lengthField w }

/-- The control word with the given fields (R82, R95). -/
def controlWord (version : BitVec 15) (type : BitVec 16) (flags : BitVec 8) (length : BitVec 24) :
    BitVec 64 :=
  1#1 ++ version ++ type ++ flags ++ length

/-- The data word with the given fields (R83, R95). -/
def dataWord (id : BitVec 31) (flags : BitVec 8) (length : BitVec 24) : BitVec 64 :=
  0#1 ++ id ++ flags ++ length

/-- Re-encoding a decoded header at the same bit positions (R119); `none` for a record whose
presence pattern is not that of R117. -/
def hdrEncode (h : FrameHeader) : Option (BitVec 64) :=
  match h.control, h.version, h.type, h.id with
  | true, some v, some t, none => some (controlWord (v.setWidth 15) t h.flags h.length)
  | false, none, none, some i => some (dataWord (i.setWidth 31) h.flags h.length)
  | _, _, _, _ => none

/-! ### Header classes (R86, R87, R210) -/

/-- SEL(type) (R210). -/
def sel (type : BitVec 16) : Sel :=
  if type = 0x0001 then .decoder .synStream
  else if type = 0x0002 then .decoder .synReply
  else if type = 0x0003 then .decoder .rstStream
  else if type = 0x0004 then .decoder .settings
  else if type = 0x0005 then .noop
  else if type = 0x0006 then .decoder .ping
  else if type = 0x0007 then .decoder .goaway
  else if type = 0x0008 then .decoder .headers
  else if type = 0x0009 then .decoder .windowUpdate
  else if type = 0xF000 then .decoder .xForwarded
  else .unknown

/-- class(W): the control bit first, then the type; the first match wins (R86). -/
def classOf (w : BitVec 64) : HeaderClass :=
  if controlField w then .control (sel (typeField w)) else .data

/-! ### The decoder -/

/-- The header a word is. Every word is one (R84, R118). -/
def decodeWord (w : BitVec 64) : Instr :=
  match classOf w with
  | .data => .data (idField w) (flagsField w) (lengthField w)
  | .control (.decoder .synStream) => .synStream (versionField w) (flagsField w) (lengthField w)
  | .control (.decoder .synReply) => .synReply (versionField w) (flagsField w) (lengthField w)
  | .control (.decoder .rstStream) => .rstStream (versionField w) (flagsField w) (lengthField w)
  | .control (.decoder .settings) => .settings (versionField w) (flagsField w) (lengthField w)
  | .control .noop => .noop (versionField w) (flagsField w) (lengthField w)
  | .control (.decoder .ping) => .ping (versionField w) (flagsField w) (lengthField w)
  | .control (.decoder .goaway) => .goaway (versionField w) (flagsField w) (lengthField w)
  | .control (.decoder .headers) => .headers (versionField w) (flagsField w) (lengthField w)
  | .control (.decoder .windowUpdate) => .windowUpdate (versionField w) (flagsField w) (lengthField w)
  | .control (.decoder .xForwarded) => .xForwarded (versionField w) (flagsField w) (lengthField w)
  | .control .unknown => .unknown (versionField w) (typeField w) (flagsField w) (lengthField w)

/-- Why a byte string is no header: it has another length than 8 (R93, R110). -/
inductive DecodeError where
  | notEightBytes (length : Nat)
deriving DecidableEq, Repr

/-- The decoder, total on byte strings: exactly 8 bytes are a header (R110). -/
def decode (b : Bytes) : Except DecodeError Instr :=
  if b.length = 8 then .ok (decodeWord (wordOfBytes b)) else .error (.notEightBytes b.length)

/-- The decoder on a word numbered as spec/opcode_table.json numbers it. The table's word is the
64-bit W, stored big-endian (R65, R81); bits at and above `nbits` are 0. -/
def decodeTableWord (nbits w : Nat) : Option Instr :=
  match decode (bytesOfWord (BitVec.ofNat 64 (w % 2 ^ nbits))) with
  | .ok i => some i
  | .error _ => none

/-! ### The encoder -/

/-- The word of a header (R82, R83, R87). -/
def encodeWord : Instr → BitVec 64
  | .data id f l => dataWord id f l
  | .synStream v f l => controlWord v 0x0001 f l
  | .synReply v f l => controlWord v 0x0002 f l
  | .rstStream v f l => controlWord v 0x0003 f l
  | .settings v f l => controlWord v 0x0004 f l
  | .noop v f l => controlWord v 0x0005 f l
  | .ping v f l => controlWord v 0x0006 f l
  | .goaway v f l => controlWord v 0x0007 f l
  | .headers v f l => controlWord v 0x0008 f l
  | .windowUpdate v f l => controlWord v 0x0009 f l
  | .xForwarded v f l => controlWord v 0xF000 f l
  | .unknown v t f l => controlWord v t f l

/-- The 8 bytes of a header, in the order they arrive (R81). -/
def encode (i : Instr) : Bytes := bytesOfWord (encodeWord i)

/-! ### What the controller reads of a header -/

/-- The version a header carries; a data header has none (R89, R117). -/
def Instr.version? : Instr → Option (BitVec 15)
  | .data _ _ _ => none
  | .synStream v _ _ | .synReply v _ _ | .rstStream v _ _ | .settings v _ _ | .noop v _ _
  | .ping v _ _ | .goaway v _ _ | .headers v _ _ | .windowUpdate v _ _ | .xForwarded v _ _
  | .unknown v _ _ _ => some v

/-- The number of body bytes that follow the header (R84). -/
def Instr.bodyLength : Instr → BitVec 24
  | .data _ _ l | .synStream _ _ l | .synReply _ _ l | .rstStream _ _ l | .settings _ _ l
  | .noop _ _ l | .ping _ _ l | .goaway _ _ l | .headers _ _ l | .windowUpdate _ _ l
  | .xForwarded _ _ l | .unknown _ _ _ l => l

/-- The decoded header record of a header (R110): HDR_DECODE of its word. -/
def Instr.header (i : Instr) : FrameHeader := hdrDecode (encodeWord i)

/-! ### Header literals (R95) -/

/-- `HDR CTRL v=.. type=.. flags=.. len=..`: the 8 bytes, or an assembly error (`none`) when a
value does not fit its field (R95). -/
def assembleCtrl (v type flags len : Nat) : Option Bytes :=
  if v < 2 ^ 15 ∧ type < 2 ^ 16 ∧ flags < 2 ^ 8 ∧ len < 2 ^ 24 then
    some (bytesOfWord (controlWord (BitVec.ofNat 15 v) (BitVec.ofNat 16 type)
      (BitVec.ofNat 8 flags) (BitVec.ofNat 24 len)))
  else none

/-- `HDR DATA id=.. flags=.. len=..` (R95). -/
def assembleData (id flags len : Nat) : Option Bytes :=
  if id < 2 ^ 31 ∧ flags < 2 ^ 8 ∧ len < 2 ^ 24 then
    some (bytesOfWord (dataWord (BitVec.ofNat 31 id) (BitVec.ofNat 8 flags) (BitVec.ofNat 24 len)))
  else none

/-- `FRAME <header literal> BODY <bytes>`: the two chunks it supplies, an assembly error unless the
body has the header's length (R95). -/
def assembleFrame (hdr : Option Bytes) (body : Bytes) : Option (List Bytes) :=
  match hdr with
  | none => none
  | some h =>
    if body.length = (lengthField (wordOfBytes h)).toNat then some [h, body] else none

end Sys2Proof
end

