-- ==== Sys2Proof/Machine/Operands.lean ====
section
/-! DEFINITION. Operand reads: bytes of the byte spaces (20_memory.md R60 to R64), guarded integer
and substring reads (00_scope.md R8), and the width of a KV field (R29). -/

namespace Sys2Proof.Machine

/-- The byte spaces the block holds (R60): the body buffer and the decompressed buffer. -/
inductive Space where
  | body
  | kv
deriving DecidableEq, Repr

/-- The byte string that is a space's content. -/
def spaceBytes (s : State) : Space → Bytes
  | .body => s.bodyBuf
  | .kv => s.kvBuf

/-- One byte of a space by offset; an offset at or past the end does not exist (R60, R69). -/
def readByte (s : State) (sp : Space) (off : Nat) : Option Byte := (spaceBytes s sp)[off]?

/-- `MemRead(B, o, n)` = `be(B, o, n)`, and nothing where the spec leaves it undefined, that is where
`o + n > |B|` (R8). -/
def memRead (b : Bytes) (off n : Nat) : Option Nat :=
  if off + n ≤ b.length then some (be b off n) else none

/-- `B[o .. o+n)`, and nothing where it runs past the end (R7, R8). -/
def memSlice (b : Bytes) (off n : Nat) : Option Bytes :=
  if off + n ≤ b.length then some (slice b off n) else none

/-- KV_W in bytes (R29). -/
def widthBytes : KvWidth → Nat
  | .two => 2
  | .four => 4

/-- The KV field width of a version: 2 if v = 2, else 4 (R171). -/
def widthOf (v : BitVec 15) : KvWidth := if v = 2 then .two else .four

/-- KV_STATE is one of the five read states (R28, R170). -/
def kvReading : KvState → Bool
  | .idle | .decomp => false
  | .count | .nlen | .name | .vlen | .value => true

end Sys2Proof.Machine
end

