-- ==== Sys2Proof/Machine/Ops.lean ====
section
/-! DEFINITION. The operations every instruction is built from: signalling an output, error entry
and the return from it (60_exceptions.md R256, R257), the header phase (41_frame_controller.md R131,
R132), taking a body chunk (R133 to R136, R141, R142), completing a frame, and RESET
(70_reset_and_hazards.md R280). -/

namespace Sys2Proof.Machine

/-! ### Signalling and completing -/

/-- Signal one output transaction, in the step that produces it (R11, R42). -/
def signal (o : Output) (s : State) : State := { s with outputs := s.outputs ++ [o] }

/-- Back to waiting for a header: PHASE ← HDR, NEED ← 8. -/
def awaitHeader (s : State) : State := { s with phase := .hdr, need := 8 }

/-- `emit frame`, then PHASE ← HDR and NEED ← 8 (R133 to R135, R137). -/
def completeFrame (f : Frame) (s : State) : State := awaitHeader (signal (.emit f) s)

/-! ### Error entry and return -/

/-- The code of an error (R250). -/
def errCode : Err → ErrCode
  | .unsupportedVersion _ => .unsupportedVersion
  | .frameTruncated => .frameTruncated
  | .headerBlockTruncated => .headerBlockTruncated
  | .codecError _ => .codecError

/-- The phase an error enters: FATAL for UnsupportedVersion, else ERROR (R256). -/
def errPhase : Err → Phase
  | .unsupportedVersion _ => .fatal
  | .frameTruncated | .headerBlockTruncated | .codecError _ => .error

/-- `raise e`: error entry, the one operation every error goes through (R256). -/
def raise (e : Err) (s : State) : State :=
  { signal (.fail e) s with err := errCode e, need := 0, phase := errPhase e }

/-- RESUME: the return from ERROR; VER, VER_VALID and ERR stay (R139, R257). -/
def resume (s : State) : Result :=
  match s.phase with
  | .error => .next (awaitHeader s)
  | .hdr | .body | .busy | .fatal => .refused .resumeOutsideError

/-- RESET, accepted in every state (R280). The registers the spec leaves unspecified take the values
of `State.reset` (log entry 4); what stands at the ports and what has been signalled is the hosts',
and stays: DEDUCED, unsafe, log entry 12. -/
def resetOp (s : State) : State :=
  { State.reset with supplyPort := s.supplyPort, events := s.events, outputs := s.outputs }

/-! ### Header phase -/

/-- VERSION_CHECK_OK(v), with VERSION_RECHECK as an argument (R132). -/
def versionCheckOk (recheck : Bool) (v : BitVec 15) (s : State) : Bool :=
  if s.verValid then !recheck || v == s.ver else v == 2 || v == 3

/-- PIN_VERSION(v): written once per reset (R132). -/
def pinVersion (v : BitVec 15) (s : State) : State :=
  if s.verValid then s else { s with ver := v, verValid := true }

/-- The last three lines of SUPPLY_HEADER: keep the header and ask for its body (R131). -/
def acceptHeader (i : Instr) (s : State) : State :=
  { s with hdrReg := encodeWord i, phase := .body, need := i.bodyLength }

/-- SUPPLY_HEADER for a header that has been taken off the supply port (R131): a control header is
checked and pins the version, a data header does neither. -/
def supplyHeader (recheck : Bool) (i : Instr) (s : State) : State :=
  match i.version? with
  | none => acceptHeader i s
  | some v =>
    if versionCheckOk recheck v s then acceptHeader i (pinVersion v s)
    else raise (.unsupportedVersion v) s

/-! ### Body phase -/

/-- Take the body of the frame in flight off the supply port and run `body` on it. With nothing
presented the block is idle (R266; log entry 11); a chunk of another length than NEED is refused (R142). -/
def takeBody (body : Bytes → State → State) (s : State) : Result :=
  match s.supplyPort with
  | [] => .next s
  | b :: rest =>
    if b.length = s.need.toNat then .next (body b { s with supplyPort := rest })
    else .refused .wrongLengthSupply

/-- A header's instruction, phase by phase: in HDR its header is accepted (R131); in BODY its class
uses the body; otherwise SUPPLY_READY = 0 and the SUPPLY waits, which changes nothing (R141). The
header's fields come from the instruction, which is the header at the port or in HDR_REG: DEDUCED,
safe, log entry 14. -/
def runHeader (i : Instr) (body : Bytes → State → State) (s : State) : Result :=
  match s.phase with
  | .hdr => .next (supplyHeader Config.versionRecheck i s)
  | .body => takeBody body s
  | .busy | .error | .fatal => .next s

/-- VER as DISPATCH carries it: none while VER_VALID = 0 (R43). -/
def pinnedVersion (s : State) : Option (BitVec 15) := if s.verValid then some s.ver else none

/-- SUPPLY_BODY_DISPATCH: the body goes to BODY_BUF and to the body decoder, and the block is BUSY,
asking for nothing (R136). -/
def dispatchBody (c : BodyClass) (h : FrameHeader) (b : Bytes) (s : State) : State :=
  { signal (.dispatch c h b (pinnedVersion s)) { s with bodyBuf := b } with phase := .busy, need := 0 }

/-! ### Byte spaces -/

/-- |KV_BUF| does not exceed KV_BUF_MAX (R30, R60). -/
def fitsKvBuf (max : Option Nat) (n : Nat) : Bool :=
  match max with
  | none => true
  | some m => decide (n ≤ m)

/-- The form of the byte spaces: each within the size R60 gives it. Equal byte strings are equal
lists, so there is no other form to keep (log entry 3). -/
def Memory.wf (s : State) : Bool :=
  decide (s.bodyBuf.length ≤ 0xFFFFFF) && fitsKvBuf Config.kvBufMax s.kvBuf.length

end Sys2Proof.Machine
end

