-- ==== Sys2Proof/Machine/Dispatched.lean ====
section
/-! DEFINITION. The meanings of the nine classes whose bodies go to the body decoder: each is the
header phase of R131 and the dispatch of R136 with its own selector (43_dispatch.md R212 to R215,
R217 to R221). What the body decoder does with a body is Machine/Contract.lean's. -/

namespace Sys2Proof.Machine

/-- SYN_STREAM (R212, with the block semantics of R131 and R136). -/
def execSynStream (version : BitVec 15) (flags : BitVec 8) (length : BitVec 24) (s : State) : Result :=
  runHeader (.synStream version flags length)
    (dispatchBody .synStream (Instr.header (.synStream version flags length))) s

/-- SYN_REPLY (R213, with the block semantics of R131 and R136). -/
def execSynReply (version : BitVec 15) (flags : BitVec 8) (length : BitVec 24) (s : State) : Result :=
  runHeader (.synReply version flags length)
    (dispatchBody .synReply (Instr.header (.synReply version flags length))) s

/-- RST_STREAM (R214, with the block semantics of R131 and R136). -/
def execRstStream (version : BitVec 15) (flags : BitVec 8) (length : BitVec 24) (s : State) : Result :=
  runHeader (.rstStream version flags length)
    (dispatchBody .rstStream (Instr.header (.rstStream version flags length))) s

/-- SETTINGS (R215, with the block semantics of R131 and R136). -/
def execSettings (version : BitVec 15) (flags : BitVec 8) (length : BitVec 24) (s : State) : Result :=
  runHeader (.settings version flags length)
    (dispatchBody .settings (Instr.header (.settings version flags length))) s

/-- PING (R217, with the block semantics of R131 and R136). -/
def execPing (version : BitVec 15) (flags : BitVec 8) (length : BitVec 24) (s : State) : Result :=
  runHeader (.ping version flags length)
    (dispatchBody .ping (Instr.header (.ping version flags length))) s

/-- GOAWAY (R218, with the block semantics of R131 and R136). -/
def execGoaway (version : BitVec 15) (flags : BitVec 8) (length : BitVec 24) (s : State) : Result :=
  runHeader (.goaway version flags length)
    (dispatchBody .goaway (Instr.header (.goaway version flags length))) s

/-- HEADERS (R219, with the block semantics of R131 and R136). -/
def execHeaders (version : BitVec 15) (flags : BitVec 8) (length : BitVec 24) (s : State) : Result :=
  runHeader (.headers version flags length)
    (dispatchBody .headers (Instr.header (.headers version flags length))) s

/-- WINDOW_UPDATE (R220, with the block semantics of R131 and R136). -/
def execWindowUpdate (version : BitVec 15) (flags : BitVec 8) (length : BitVec 24) (s : State) : Result :=
  runHeader (.windowUpdate version flags length)
    (dispatchBody .windowUpdate (Instr.header (.windowUpdate version flags length))) s

/-- X_FORWARDED (R221, with the block semantics of R131 and R136). -/
def execXForwarded (version : BitVec 15) (flags : BitVec 8) (length : BitVec 24) (s : State) : Result :=
  runHeader (.xForwarded version flags length)
    (dispatchBody .xForwarded (Instr.header (.xForwarded version flags length))) s

end Sys2Proof.Machine
end

