-- ==== Sys2Proof/Machine/Frames.lean ====
section
/-! DEFINITION. The meanings of the classes whose frames the block builds itself: DATA, NOOP and
UNKNOWN (43_dispatch.md R211, R216, R222). -/

namespace Sys2Proof.Machine

/-- SUPPLY_BODY_DATA (R133): flags bits 0 and 1 are read, the payload is the raw body. -/
def bodyData (id : BitVec 31) (flags : BitVec 8) (b : Bytes) (s : State) : State :=
  completeFrame (.data id (flagFin flags) (flagCompressed flags) b) s

/-- SUPPLY_BODY_NOOP (R134): the body is consumed and not examined. -/
def bodyNoop (_b : Bytes) (s : State) : State := completeFrame .noop s

/-- SUPPLY_BODY_UNKNOWN (R135): the raw body, tagged with the type. -/
def bodyUnknown (type : BitVec 16) (b : Bytes) (s : State) : State :=
  completeFrame (.unknown type b) s

/-- DATA (R211). -/
def execData (id : BitVec 31) (flags : BitVec 8) (length : BitVec 24) (s : State) : Result :=
  runHeader (.data id flags length) (bodyData id flags) s

/-- NOOP (R216). -/
def execNoop (version : BitVec 15) (flags : BitVec 8) (length : BitVec 24) (s : State) : Result :=
  runHeader (.noop version flags length) bodyNoop s

/-- UNKNOWN (R222). -/
def execUnknown (version : BitVec 15) (type : BitVec 16) (flags : BitVec 8) (length : BitVec 24)
    (s : State) : Result :=
  runHeader (.unknown version type flags length) (bodyUnknown type) s

end Sys2Proof.Machine
end

