-- ==== Sys2Proof/Machine/Dispatch.lean ====
section
/-! DEFINITION. What each instruction does: one arm per header class. -/

namespace Sys2Proof.Machine

def exec (i : Instr) (s : State) : Host.Outcome State Fault Refusal :=
  match i with
  | .data id flags length => Sys2Proof.Machine.execData id flags length s
  | .synStream version flags length => Sys2Proof.Machine.execSynStream version flags length s
  | .synReply version flags length => Sys2Proof.Machine.execSynReply version flags length s
  | .rstStream version flags length => Sys2Proof.Machine.execRstStream version flags length s
  | .settings version flags length => Sys2Proof.Machine.execSettings version flags length s
  | .noop version flags length => Sys2Proof.Machine.execNoop version flags length s
  | .ping version flags length => Sys2Proof.Machine.execPing version flags length s
  | .goaway version flags length => Sys2Proof.Machine.execGoaway version flags length s
  | .headers version flags length => Sys2Proof.Machine.execHeaders version flags length s
  | .windowUpdate version flags length => Sys2Proof.Machine.execWindowUpdate version flags length s
  | .xForwarded version flags length => Sys2Proof.Machine.execXForwarded version flags length s
  | .unknown version type flags length => Sys2Proof.Machine.execUnknown version type flags length s

end Sys2Proof.Machine
end

