-- ==== Sys2Proof/Machine/Kv.lean ====
section
/-! DEFINITION. The KV block decoder (42_kv_decoder.md): its input transactions (R171 to R173), its
internal read steps (R174 to R178), the pair functions (R179, R180), the two ends of a block (R181,
R182), and KV_PARSE, the function the steps compute together (R183). -/

namespace Sys2Proof.Machine

/-! ### Pair functions -/

/-- STRIP(name, v): under version 3 one leading 0x3A goes (R179). -/
def strip (name : Bytes) (v : BitVec 15) : Bytes :=
  match name with
  | [] => []
  | c :: rest => if v = 3 ∧ c = 0x3A then rest else c :: rest

/-- INSERT(pairs, name, value): a name already present keeps its position and takes the new value;
a new one goes to the end (R180). -/
def insertPair (pairs : Pairs) (name value : Bytes) : Pairs :=
  if pairs.any (fun p => p.1 == name) then
    pairs.map (fun p => if p.1 == name then (p.1, value) else p)
  else pairs ++ [(name, value)]

/-! ### Ends of a block -/

/-- KV_COMPLETE: the whole list is delivered in one transaction (R181). -/
def kvComplete (s : State) : State := { signal (.kvDone s.kvPairs) s with kvState := .idle }

/-- KV_FAIL_TRUNCATED: nothing of the block is delivered (R182). -/
def kvFailTruncated (s : State) : State :=
  { signal (.kvErr .headerBlockTruncated) s with kvPairs := [], kvState := .idle }

/-! ### Input transactions -/

/-- KV_START(cbytes) (R171): accepted when PHASE = BUSY, KV_STATE = IDLE and VER_VALID = 1. Exactly
one DECOMP_REQ is issued (20_memory.md R71). -/
def kvStart (cbytes : Bytes) (s : State) : Result :=
  if s.phase = .busy ∧ s.kvState = .idle ∧ s.verValid = true then
    .next { signal (.decompReq cbytes s.ver) s with
              kvW := widthOf s.ver, kvPairs := [], kvState := .decomp }
  else .refused .kvStartNotAccepted

/-- DECOMP_OK(dbytes), with KV_BUF_MAX as an argument (R172): a buffer that does not fit is reported
as CodecError(BufferOverflow). -/
def decompOk (max : Option Nat) (dbytes : Bytes) (s : State) : Result :=
  if s.kvState = .decomp then
    if fitsKvBuf max dbytes.length then
      .next { s with kvBuf := dbytes, kvPos := 0, kvState := .count }
    else .next { signal (.kvErr (.codecError .bufferOverflow)) s with kvState := .idle }
  else .refused .codecAnswerNotAwaited

/-- DECOMP_ERR(payload): the payload is passed on as it came (R173, R254). -/
def decompErr (payload : Bytes) (s : State) : Result :=
  if s.kvState = .decomp then
    .next { signal (.kvErr (.codecError (.codec payload))) s with kvPairs := [], kvState := .idle }
  else .refused .codecAnswerNotAwaited

/-! ### Field reads at KV_POS -/

/-- The bounds check of every read step: `|KV_BUF| - KV_POS < n`, over natural numbers and so
without wrap (R9; DEDUCED, safe, log entry 13); on failure the block is truncated (R182), else `n` bytes may be read. -/
def withAvailable (n : Nat) (k : State → Result) (s : State) : Result :=
  if s.kvBuf.length < s.kvPos + n then .next (kvFailTruncated s) else k s

/-- Read an unsigned big-endian field of KV_W bytes at KV_POS and step over it (R85, R88). -/
def readPrefix (k : BitVec 32 → State → State) (s : State) : Result :=
  withAvailable (widthBytes s.kvW) (fun s =>
    match memRead s.kvBuf s.kvPos (widthBytes s.kvW) with
    | some v => .next (k (BitVec.ofNat 32 v) { s with kvPos := s.kvPos + widthBytes s.kvW })
    | none => .fault .readPastEnd) s

/-- Read `n` bytes at KV_POS and step over them (R85). -/
def readString (n : Nat) (k : Bytes → State → State) (s : State) : Result :=
  withAvailable n (fun s =>
    match memSlice s.kvBuf s.kvPos n with
    | some b => .next (k b { s with kvPos := s.kvPos + n })
    | none => .fault .readPastEnd) s

/-- The end of R174 and of R178: KV_COMPLETE if no pair remains, else on to the next name. -/
def nextPair (s : State) : State :=
  if s.kvRem = 0 then kvComplete s else { s with kvState := .nlen }

/-! ### Internal read steps -/

/-- KV_COUNT (R174). -/
def kvCount (s : State) : Result := readPrefix (fun v s => nextPair { s with kvRem := v }) s

/-- KV_NLEN (R175). -/
def kvReadNlen (s : State) : Result :=
  readPrefix (fun v s => { s with kvNlen := v, kvState := .name }) s

/-- KV_NAME (R176). -/
def kvReadName (s : State) : Result :=
  readString s.kvNlen.toNat (fun b s => { s with kvName := b, kvState := .vlen }) s

/-- KV_VLEN (R177). -/
def kvReadVlen (s : State) : Result :=
  readPrefix (fun v s => { s with kvVlen := v, kvState := .value }) s

/-- KV_VALUE (R178): the pair is inserted once its value is complete. -/
def kvReadValue (s : State) : Result :=
  readString s.kvVlen.toNat (fun b s =>
    nextPair { s with
      kvPairs := insertPair s.kvPairs (strip s.kvName s.ver) b
      kvRem := s.kvRem - 1 }) s

/-- The internal step of the KV unit, if it is in a read state (R170). -/
def kvStep (s : State) : Result :=
  match s.kvState with
  | .idle | .decomp => .next s
  | .count => kvCount s
  | .nlen => kvReadNlen s
  | .name => kvReadName s
  | .vlen => kvReadVlen s
  | .value => kvReadValue s

/-! ### KV_PARSE -/

/-- The loop of KV_PARSE: `rem` pairs from offset `pos`, each read behind its bounds check (R183).
`none` is Err(HeaderBlockTruncated). -/
def kvLoop (d : Bytes) (v : BitVec 15) : Nat → Nat → Pairs → Option Pairs
  | 0, _, pairs => some pairs
  | rem + 1, pos, pairs =>
    let w := widthBytes (widthOf v)
    match memRead d pos w with
    | none => none
    | some nlen =>
      match memSlice d (pos + w) nlen with
      | none => none
      | some name =>
        match memRead d (pos + w + nlen) w with
        | none => none
        | some vlen =>
          match memSlice d (pos + w + nlen + w) vlen with
          | none => none
          | some value =>
            kvLoop d v rem (pos + w + nlen + w + vlen) (insertPair pairs (strip name v) value)

/-- KV_PARSE(D, v) (R183): `some pairs` is Ok(pairs), `none` is Err(HeaderBlockTruncated). -/
def kvParse (d : Bytes) (v : BitVec 15) : Option Pairs :=
  match memRead d 0 (widthBytes (widthOf v)) with
  | none => none
  | some count => kvLoop d v count (widthBytes (widthOf v)) []

/-! ### The format of a KV block -/

/-- An n-byte unsigned big-endian field (R85). -/
def beField : Nat → Nat → Bytes
  | 0, _ => []
  | n + 1, x => beField n (x / 256) ++ [BitVec.ofNat 8 x]

/-- The pairs of a block: each string behind its length prefix (R85). -/
def kvPairBytes (w : Nat) : Pairs → Bytes
  | [] => []
  | p :: rest =>
    beField w p.1.length ++ p.1 ++ beField w p.2.length ++ p.2 ++ kvPairBytes w rest

/-- The KV block of a pair list under version `v`: the count, then the pairs (R85). -/
def kvBlock (v : BitVec 15) (pairs : Pairs) : Bytes :=
  beField (widthBytes (widthOf v)) pairs.length ++ kvPairBytes (widthBytes (widthOf v)) pairs

/-- The count and every length fit their fields (R85). -/
def kvFits (v : BitVec 15) (pairs : Pairs) : Bool :=
  decide (pairs.length < 256 ^ widthBytes (widthOf v)) &&
    pairs.all (fun p => decide (p.1.length < 256 ^ widthBytes (widthOf v)) &&
      decide (p.2.length < 256 ^ widthBytes (widthOf v)))

/-- The pairs a block delivers: inserted in buffer order, the names stripped (R178 to R180). -/
def kvInsertAll (v : BitVec 15) (pairs : Pairs) : Pairs :=
  pairs.foldl (fun acc p => insertPair acc (strip p.1 v) p.2) []

end Sys2Proof.Machine
end

