-- ==== Sys2Proof/Machine/Ports.lean ====
section
/-! DEFINITION. The body decoder's answers (41_frame_controller.md R137, R138; 10_state.md R43). The
KV port and the codec port are in Machine/Kv.lean, RESUME and RESET in Machine/Ops.lean. -/

namespace Sys2Proof.Machine

/-- The controller awaits a body decode's answer: PHASE = BUSY and KV_STATE = IDLE (R43). -/
def awaitsBodyAnswer (s : State) : Bool := s.phase == .busy && s.kvState == .idle

/-- BODY_DONE(frame): the frame is emitted as it came (R137); which frames come is open, log entry 7. -/
def bodyDone (f : Frame) (s : State) : Result :=
  if awaitsBodyAnswer s then .next (completeFrame f s) else .refused .bodyAnswerNotAwaited

/-- The error a BODY_ERR raises (R138). -/
def bodyErrToErr : BodyErr → Err
  | .frameTruncated => .frameTruncated
  | .headerBlockTruncated => .headerBlockTruncated
  | .codecError p => .codecError p

/-- BODY_ERR(code) (R138). -/
def bodyErr (e : BodyErr) (s : State) : Result :=
  if awaitsBodyAnswer s then .next (raise (bodyErrToErr e) s) else .refused .bodyAnswerNotAwaited

end Sys2Proof.Machine
end

