-- ==== Sys2Proof/Machine/Control.lean ====
section
/-! DEFINITION. What drives the block: fetching a header from the supply port, accepting a SUPPLY,
the step the block has of its own, and the transaction that comes next (00_scope.md R11;
10_state.md R20, R36, R40 to R46). -/

namespace Sys2Proof.Machine

/-- Phase HDR: take the oldest waiting chunk off the supply port and run the header it is (R131). It
must be of NEED bytes (R40, R142); with nothing presented the block is idle (R266). -/
def fetchHeader (s : State) : Result :=
  match s.supplyPort with
  | [] => .next s
  | b :: rest =>
    if b.length = s.need.toNat then
      match decode b with
      | .ok i => exec i { s with supplyPort := rest }
      | .error _ => .refused .wrongLengthSupply
    else .refused .wrongLengthSupply

/-- Accept the oldest waiting SUPPLY if the port is ready (R40): in HDR it is a header, in BODY the
body of the header in HDR_REG; otherwise it goes on waiting (R141). -/
def acceptSupply (s : State) : Result :=
  match s.phase with
  | .hdr => fetchHeader s
  | .body => exec (decodeWord s.hdrReg) s
  | .busy | .error | .fatal => .next s

/-- The step the block has of its own: the KV unit's read step if it is in a read state (R170), else
accepting a SUPPLY that has been waiting (R141), else none: it is idle and holds its state (R266). An
idle step is a next state: DESIGN CHOICE, safe, log entry 11. -/
def advance (s : State) : Result :=
  if kvReading s.kvState then kvStep s else acceptSupply s

/-- One entry of `events`, which has been taken off the list. -/
def takeEvent (e : Event) (s : State) : Result :=
  match e with
  | .supply b => acceptSupply { s with supplyPort := s.supplyPort ++ [b] }
  | .bodyDone f => bodyDone f s
  | .bodyErr e => bodyErr e s
  | .kvStart c => kvStart c s
  | .decompOk d => decompOk Config.kvBufMax d s
  | .decompErr p => decompErr p s
  | .resume => resume s
  | .reset => .next (resetOp s)
  | .advance => advance s
  | .withdraw => .next { s with supplyPort := s.supplyPort.tail }

/-- One step: the next transaction or, with none to come, the block's own step (R11, R20). -/
def nextStep (s : State) : Result :=
  match s.events with
  | [] => advance s
  | e :: rest => takeEvent e { s with events := rest }

end Sys2Proof.Machine
end

