-- ==== Sys2Proof/Machine/Step.lean ====
section
/-! DEFINITION. One step of the machine, and a header placed where the next step takes it. -/

namespace Sys2Proof.Machine

/-- One step of the block (00_scope.md R11). -/
def step (s : State) : Host.Outcome State Fault Refusal := nextStep s

/-- `s` with the header word `w` (numbered as spec/opcode_table.json numbers it) presented on the
supply port as the next transaction, the block awaiting a header. Log entry 9. -/
def State.withFetchWord (s : State) (nbits w : Nat) : State :=
  { s with
    phase := .hdr
    need := 8
    kvState := .idle
    supplyPort := []
    events := .supply (bytesOfWord (BitVec.ofNat 64 (w % 2 ^ nbits))) :: s.events }

end Sys2Proof.Machine
end

