-- ==== Sys2Proof/Machine/Contract.lean ====
section
/-! DEFINITION. A reference body decoder: what a collaborator that keeps the contract of
43_dispatch.md R212 to R225 presents to the block. It is outside the block (00_scope.md R5 b): no
step of the machine calls it, and `events` may hold any other answer. It is a function of what the
block gave it, the header, the body and the version (R223 b), and of the KV unit's answer. DESIGN CHOICE, safe, log
entry 16. -/

namespace Sys2Proof.Machine

/-- A move of the body decoder: an answer, or the one use of the KV port (R223 a, d). -/
inductive DecoderMove where
  | done (frame : Frame)
  | err (e : BodyErr)
  | kvStart (cbytes : Bytes)
deriving DecidableEq, Repr

/-- The transaction a move presents. -/
def moveEvent : DecoderMove → Event
  | .done f => .bodyDone f
  | .err e => .bodyErr e
  | .kvStart c => .kvStart c

/-! ### Field readers -/

/-- `be(B, o, 4)` as a 32-bit field. -/
def field32 (b : Bytes) (off : Nat) : BitVec 32 := BitVec.ofNat 32 (be b off 4)

/-- `be(B, o, 4) & 0x7FFFFFFF`: a 31-bit field. -/
def field31 (b : Bytes) (off : Nat) : BitVec 31 := BitVec.ofNat 31 (be b off 4)

/-- The offset of the compressed KV block in a body (R224). -/
def kvOffset (c : BodyClass) (v : BitVec 15) : Nat :=
  match c with
  | .synStream => 10
  | .synReply | .headers => if v = 2 then 6 else 4
  | .rstStream | .settings | .ping | .goaway | .windowUpdate | .xForwarded => 0

/-- The classes that use the KV port (R210, R223 d). -/
def usesKv : BodyClass → Bool
  | .synStream | .synReply | .headers => true
  | .rstStream | .settings | .ping | .goaway | .windowUpdate | .xForwarded => false

/-! ### The six classes without a KV block -/

/-- RST_STREAM (R214). -/
def decodeRstStream (b : Bytes) : DecoderMove :=
  if b.length < 8 then .err .frameTruncated
  else .done (.rstStream (field31 b 0) (field32 b 4) (if 8 < b.length then some (b.drop 8) else none))

/-- A map entry inserted by id, in rising order, the later entry winning (R215, D38). -/
def insertSetting (id : BitVec 24) (e : SettingsEntry) :
    List (BitVec 24 × SettingsEntry) → List (BitVec 24 × SettingsEntry)
  | [] => [(id, e)]
  | p :: rest =>
    if id = p.1 then (id, e) :: rest
    else if id.toNat < p.1.toNat then (id, e) :: p :: rest
    else p :: insertSetting id e rest

/-- The id and flags word of entry `k` under version `v`: little-endian under version 2 (R215). -/
def settingWord (v : BitVec 15) (b : Bytes) (k : Nat) : BitVec 32 :=
  BitVec.ofNat 32 (if v = 2 then le b (4 + 8 * k) 4 else be b (4 + 8 * k) 4)

/-- The map of the first `n` entries (R215). -/
def settingsMap (v : BitVec 15) (b : Bytes) : Nat → List (BitVec 24 × SettingsEntry)
  | 0 => []
  | k + 1 =>
    let w := settingWord v b k
    insertSetting (w.extractLsb' 0 24)
      { value := field32 b (4 + 8 * k + 4), persist := w.getLsbD 24, persisted := w.getLsbD 25 }
      (settingsMap v b k)

/-- SETTINGS (R215). -/
def decodeSettings (v : BitVec 15) (b : Bytes) : DecoderMove :=
  if b.length < 4 then .err .frameTruncated
  else if b.length < 4 + 8 * be b 0 4 then .err .frameTruncated
  else .done (.settings (settingsMap v b (be b 0 4)))

/-- PING (R217). -/
def decodePing (b : Bytes) : DecoderMove :=
  if b.length < 4 then .err .frameTruncated else .done (.ping (field32 b 0))

/-- GOAWAY (R218). -/
def decodeGoaway (b : Bytes) : DecoderMove :=
  if b.length < 4 then .err .frameTruncated else .done (.goaway (field31 b 0))

/-- WINDOW_UPDATE (R220). -/
def decodeWindowUpdate (b : Bytes) : DecoderMove :=
  if b.length < 8 then .err .frameTruncated
  else .done (.windowUpdate (field31 b 0) (field31 b 4))

/-- X_FORWARDED (R221). -/
def decodeXForwarded (b : Bytes) : DecoderMove :=
  if b.length < 4 then .err .frameTruncated
  else if b.length < 4 + be b 0 4 then .err .frameTruncated
  else .done (.xForwarded (slice b 4 (be b 0 4)))

/-! ### The three classes with a KV block -/

/-- The fixed fields are checked first; then the rest of the body goes to the KV unit (R224, R225). -/
def startKv (c : BodyClass) (v : BitVec 15) (b : Bytes) : DecoderMove :=
  if b.length < kvOffset c v then .err .frameTruncated else .kvStart (b.drop (kvOffset c v))

/-- The value of a name in a header block. -/
def lookupPair (h : Pairs) (name : Bytes) : Option Bytes := (h.find? (fun p => p.1 == name)).map (·.2)

/-- "path", "url" and "method" as byte strings (D14). -/
def nameUrl : Bytes := [0x75, 0x72, 0x6C]
def namePath : Bytes := [0x70, 0x61, 0x74, 0x68]
def nameMethod : Bytes := [0x6D, 0x65, 0x74, 0x68, 0x6F, 0x64]

/-- url = h["path"] if present, else h["url"] if present, else "" (R212, R213). -/
def urlOf (h : Pairs) : Bytes :=
  match lookupPair h namePath, lookupPair h nameUrl with
  | some p, _ => p
  | none, some u => u
  | none, none => []

/-- The request line is missing: no "method", or neither "path" nor "url" (R212, D23). -/
def requestLineMissing (h : Pairs) : Bool :=
  (lookupPair h nameMethod).isNone || ((lookupPair h namePath).isNone && (lookupPair h nameUrl).isNone)

/-- The frame built from a header block (R212, R213, R219). With REQUIRE_REQUEST_LINE a SYN_STREAM
without a request line has no move: the spec names no error for it (R212, D23). -/
def finishKv (requireLine : Bool) (c : BodyClass) (flags : BitVec 8) (b : Bytes) (h : Pairs) :
    Option DecoderMove :=
  match c with
  | .synStream =>
    if requireLine && requestLineMissing h then none
    else some (.done (.synStream (field31 b 0) (field31 b 4) ((b.getD 8 0).extractLsb' 5 3)
      (flagFin flags) (flagUnidir flags) h (urlOf h)))
  | .synReply => some (.done (.synReply (field31 b 0) (flagFin flags) h (urlOf h)))
  | .headers => some (.done (.headers (field31 b 0) h))
  | .rstStream | .settings | .ping | .goaway | .windowUpdate | .xForwarded => none

/-- A KV_ERR code is passed on unchanged (R223 e). -/
def kvErrToBodyErr : KvErr → BodyErr
  | .headerBlockTruncated => .headerBlockTruncated
  | .codecError p => .codecError p

/-! ### The reference body decoder -/

/-- Its move on a DISPATCH (R212 to R221). -/
def decodeBody (c : BodyClass) (v : BitVec 15) (b : Bytes) : DecoderMove :=
  match c with
  | .synStream => startKv .synStream v b
  | .synReply => startKv .synReply v b
  | .headers => startKv .headers v b
  | .rstStream => decodeRstStream b
  | .settings => decodeSettings v b
  | .ping => decodePing b
  | .goaway => decodeGoaway b
  | .windowUpdate => decodeWindowUpdate b
  | .xForwarded => decodeXForwarded b

/-- What it presents next on a state: its first move after DISPATCH, its answer after KV_DONE or
KV_ERR, and nothing while the block does not await it. Which of these has come is the last output
signalled; header, body and version are HDR_REG, BODY_BUF and VER, as DISPATCH gave them (R43). -/
def contractMove (s : State) : Option DecoderMove :=
  if awaitsBodyAnswer s then
    match classOf s.hdrReg, s.outputs.getLast? with
    | .control (.decoder c), some (.dispatch _ _ _ _) => some (decodeBody c s.ver s.bodyBuf)
    | .control (.decoder c), some (.kvDone h) =>
      finishKv Config.requireRequestLine c (flagsField s.hdrReg) s.bodyBuf h
    | .control (.decoder _), some (.kvErr e) => some (.err (kvErrToBodyErr e))
    | _, _ => none
  else none

/-- `s` with the reference body decoder's next move presented, if it has one. -/
def presentMove (s : State) : State :=
  match contractMove s with
  | some m => { s with events := moveEvent m :: s.events }
  | none => s

end Sys2Proof.Machine
end

