-- ==== Sys2Proof/Safety.lean ====
section
/-! DEFINITION. What the claims speak of: the invariants of 10_state.md R39 and of the registers'
own rules, what a step signalled, which transactions are accepted, and when two states differ only
in registers that no rule reads (R25, R26, R49). -/

namespace Sys2Proof.Safety

open Sys2Proof.Machine

/-! ### Invariants -/

/-- The header in HDR_REG is a control header whose body goes to the body decoder. -/
def headerDispatches (w : BitVec 64) : Bool :=
  match classOf w with
  | .control (.decoder _) => true
  | .data | .control .noop | .control .unknown => false

/-- The KV unit is past the count field: a pair is being read. -/
def inPair : KvState → Bool
  | .idle | .decomp | .count => false
  | .nlen | .name | .vlen | .value => true

/-- The invariant of every state between steps (10_state.md R39), with R22 to R32. -/
structure BlockInv (s : State) : Prop where
  /-- R23, R39 (a) -/
  need_hdr : s.phase = .hdr → s.need = 8
  /-- R23, R39 (a) -/
  need_body : s.phase = .body → s.need = (hdrDecode s.hdrReg).length
  /-- R23, R39 (a), D36 -/
  need_idle : s.phase = .busy ∨ s.phase = .error ∨ s.phase = .fatal → s.need = 0
  /-- R24, R39 (b) -/
  ver_supported : s.verValid = true → s.ver = 2 ∨ s.ver = 3
  /-- R24: while VER_VALID = 0, VER reads as 0 -/
  ver_unset : s.verValid = false → s.ver = 0
  /-- R39 (c) -/
  kv_in_busy : s.kvState ≠ .idle → s.phase = .busy
  /-- R39 (d) -/
  busy_class : s.phase = .busy → headerDispatches s.hdrReg = true
  /-- R26 -/
  busy_body : s.phase = .busy → s.bodyBuf.length = (hdrDecode s.hdrReg).length.toNat
  /-- R136: a control header in flight has passed the version check -/
  control_pinned : s.phase = .body ∨ s.phase = .busy →
    (hdrDecode s.hdrReg).control = true → s.verValid = true
  /-- R39 (e) -/
  kv_pinned : s.kvState ≠ .idle → s.verValid = true
  /-- R29, R171 -/
  kv_width : s.kvState ≠ .idle → s.kvW = widthOf s.ver
  /-- R31, R39 (f) -/
  kv_pos : kvReading s.kvState = true → s.kvPos ≤ s.kvBuf.length
  /-- R178: KV_REM ≥ 1 while a pair is being read -/
  kv_rem : inPair s.kvState = true → s.kvRem ≠ 0
  /-- R32: only the low 8*KV_W bits of KV_REM can be non-zero -/
  kv_rem_width : inPair s.kvState = true → s.kvRem.toNat < 256 ^ widthBytes s.kvW
  /-- R35, R39 (g) -/
  pairs_distinct : (s.kvPairs.map Prod.fst).Nodup
  /-- R39 (h) -/
  err_fatal : s.phase = .fatal → s.err = .unsupportedVersion
  /-- R39 (h) -/
  err_error : s.phase = .error →
    s.err = .frameTruncated ∨ s.err = .headerBlockTruncated ∨ s.err = .codecError
  /-- R26, R30, R60 -/
  sizes : Memory.wf s = true

/-- The bytes of KV_BUF that the pair being read has used already. -/
def pairBytesRead (s : State) : Nat :=
  match s.kvState with
  | .idle | .decomp | .count | .nlen => 0
  | .name | .vlen => widthBytes s.kvW
  | .value => 2 * widthBytes s.kvW

/-- The pair store is within what KV_BUF can hold: each pair took at least 2*KV_W of its bytes (R35).
Before the buffer has come the store is empty; while pairs are read, the bytes read so far bound it. -/
structure PairsFit (s : State) : Prop where
  empty : s.kvState = .decomp ∨ s.kvState = .count → s.kvPairs = []
  reading : inPair s.kvState = true →
    s.kvPairs.length * (2 * widthBytes s.kvW) + pairBytesRead s ≤ s.kvPos ∧
      s.kvPos ≤ s.kvBuf.length
  stored : s.kvState = .idle → s.kvPairs.length * (2 * widthBytes s.kvW) ≤ s.kvBuf.length

/-! ### The version check -/

/-- The header passes the version check of R132 with VERSION_RECHECK = true: a data header always, a
control header with version 2 or 3 before a version is pinned, and with the pinned version after. -/
def versionPasses (i : Instr) (s : State) : Prop :=
  ∀ v, i.version? = some v → (s.verValid = false → v = 2 ∨ v = 3) ∧ (s.verValid = true → v = s.ver)

/-! ### What a step signals -/

/-- An output that ends a frame: EMIT or FAIL. -/
def endsFrame : Output → Bool
  | .emit _ | .fail _ => true
  | .dispatch _ _ _ _ | .decompReq _ _ | .kvDone _ | .kvErr _ => false

/-- How many frames have ended so far. -/
def framesEnded (s : State) : Nat := (s.outputs.filter endsFrame).length

/-- How many FAILs have been signalled so far. -/
def failCount (s : State) : Nat :=
  (s.outputs.filter (fun o => match o with
    | .fail _ => true
    | .emit _ | .dispatch _ _ _ _ | .decompReq _ _ | .kvDone _ | .kvErr _ => false)).length

/-- How many DECOMP_REQs have been signalled so far. -/
def requestCount (s : State) : Nat :=
  (s.outputs.filter (fun o => match o with
    | .decompReq _ _ => true
    | .emit _ | .fail _ | .dispatch _ _ _ _ | .kvDone _ | .kvErr _ => false)).length

/-! ### Acceptance -/

/-- The next transaction is one the block does not refuse (R40 to R46, R141): a SUPPLY waits, or the
chunk then at the head of the port has NEED bytes; every other one comes in the state that takes it. -/
def accepted (e : Event) (s : State) : Bool :=
  match e with
  | .supply b =>
    match (s.supplyPort ++ [b]).head? with
    | some c => !supplyReady s || c.length == s.need.toNat
    | none => true
  | .bodyDone _ | .bodyErr _ => s.phase == .busy && s.kvState == .idle
  | .kvStart _ => s.phase == .busy && s.kvState == .idle && s.verValid
  | .decompOk _ | .decompErr _ => s.kvState == .decomp
  | .resume => s.phase == .error
  | .reset | .withdraw => true
  | .advance =>
    match s.supplyPort with
    | [] => true
    | c :: _ => !supplyReady s || c.length == s.need.toNat

/-! ### Registers that no rule reads -/

/-- Two states agree on everything that a rule can still read: HDR_REG counts in BODY and BUSY (R25),
BODY_BUF in BUSY (R26), KV_W and KV_PAIRS while a block is in progress (R29, R35), KV_BUF and KV_POS
in the read states (R30, R31), and KV_REM, KV_NLEN, KV_NAME, KV_VLEN from their loading to their last
use (R32 to R34). -/
structure Agree (s t : State) : Prop where
  phase : s.phase = t.phase
  need : s.need = t.need
  verValid : s.verValid = t.verValid
  ver : s.ver = t.ver
  err : s.err = t.err
  kvState : s.kvState = t.kvState
  supplyPort : s.supplyPort = t.supplyPort
  events : s.events = t.events
  outputs : s.outputs = t.outputs
  hdrReg : s.phase = .body ∨ s.phase = .busy → s.hdrReg = t.hdrReg
  bodyBuf : s.phase = .busy → s.bodyBuf = t.bodyBuf
  kvW : s.kvState ≠ .idle → s.kvW = t.kvW
  kvPairs : s.kvState ≠ .idle → s.kvPairs = t.kvPairs
  kvBuf : kvReading s.kvState = true → s.kvBuf = t.kvBuf
  kvPos : kvReading s.kvState = true → s.kvPos = t.kvPos
  kvRem : inPair s.kvState = true → s.kvRem = t.kvRem
  kvNlen : s.kvState = .name → s.kvNlen = t.kvNlen
  kvName : s.kvState = .vlen ∨ s.kvState = .value → s.kvName = t.kvName
  kvVlen : s.kvState = .value → s.kvVlen = t.kvVlen

/-- Two outcomes agree: next states that agree, or the same stop. -/
def AgreeOutcome : Result → Result → Prop
  | .next s, .next t => Agree s t
  | .fault a, .fault b => a = b
  | .refused a, .refused b => a = b
  | _, _ => False

end Sys2Proof.Safety
end

