-- ==== Sys2Proof/Certificates/Slice0/Obligations.lean ====
section
/-! DEFINITION. The statements for the provers, from the numbered rules of spec/. -/

open Sys2Proof Sys2Proof.Machine Sys2Proof.Safety

/-! ### Encoding -/

/-- Decoding the bytes of a well-formed header gives it back, every field at every value
(30_encoding.md R82, R83, R86, R88). -/
def Obligations.DecodeOfEncodeIsTheInstruction : Prop :=
  ∀ i : Instr, i.wf = true → decode (encode i) = .ok i

/-- Every 8-byte string is the encoding of exactly the well-formed header it decodes to, and no
string of another length is a header (R84, R93, R118). -/
def Obligations.EveryEightBytesAreOneHeader : Prop :=
  ∀ b : Bytes,
    (b.length = 8 → ∃ i, decode b = .ok i ∧ i.wf = true ∧ encode i = b) ∧
    (b.length ≠ 8 → decode b = .error (.notEightBytes b.length))

/-- HDR_DECODE is injective, and re-encoding what it gives yields the same 8 bytes (R119). -/
def Obligations.ReencodingDecodedHeaderGivesItsBytes : Prop :=
  (∀ hdr : Bytes, hdr.length = 8 →
    (hdrEncode (hdrDecode (wordOfBytes hdr))).map bytesOfWord = some hdr) ∧
  (∀ a b : Bytes, a.length = 8 → b.length = 8 →
    hdrDecode (wordOfBytes a) = hdrDecode (wordOfBytes b) → a = b)

/-- The header class is chosen by bit 63 and the type alone, as the table of R86 and R87 lists it. -/
def Obligations.HeaderClassFollowsBit63AndType : Prop :=
  ∀ w : BitVec 64,
    (w.toNat < 2 ^ 63 → ∃ id f l, decodeWord w = .data id f l) ∧
    (2 ^ 63 ≤ w.toNat →
      (w.toNat / 2 ^ 32 % 2 ^ 16 = 0x0001 → ∃ v f l, decodeWord w = .synStream v f l) ∧
      (w.toNat / 2 ^ 32 % 2 ^ 16 = 0x0002 → ∃ v f l, decodeWord w = .synReply v f l) ∧
      (w.toNat / 2 ^ 32 % 2 ^ 16 = 0x0003 → ∃ v f l, decodeWord w = .rstStream v f l) ∧
      (w.toNat / 2 ^ 32 % 2 ^ 16 = 0x0004 → ∃ v f l, decodeWord w = .settings v f l) ∧
      (w.toNat / 2 ^ 32 % 2 ^ 16 = 0x0005 → ∃ v f l, decodeWord w = .noop v f l) ∧
      (w.toNat / 2 ^ 32 % 2 ^ 16 = 0x0006 → ∃ v f l, decodeWord w = .ping v f l) ∧
      (w.toNat / 2 ^ 32 % 2 ^ 16 = 0x0007 → ∃ v f l, decodeWord w = .goaway v f l) ∧
      (w.toNat / 2 ^ 32 % 2 ^ 16 = 0x0008 → ∃ v f l, decodeWord w = .headers v f l) ∧
      (w.toNat / 2 ^ 32 % 2 ^ 16 = 0x0009 → ∃ v f l, decodeWord w = .windowUpdate v f l) ∧
      (w.toNat / 2 ^ 32 % 2 ^ 16 = 0xF000 → ∃ v f l, decodeWord w = .xForwarded v f l) ∧
      ((w.toNat / 2 ^ 32 % 2 ^ 16 = 0 ∨
          (9 < w.toNat / 2 ^ 32 % 2 ^ 16 ∧ w.toNat / 2 ^ 32 % 2 ^ 16 ≠ 0xF000)) →
        ∃ v t f l, decodeWord w = .unknown v t f l))

/-- The fields of a header read byte by byte: each is the masked big-endian read of R111 to R116, the
explicit reading of flags and length gives the same (R120), and a field of the other format is absent
(R117). -/
def Obligations.HeaderFieldsAreByteReads : Prop :=
  ∀ hdr : Bytes, hdr.length = 8 →
    let h := hdrDecode (wordOfBytes hdr)
    (h.control = true ↔ 128 ≤ be hdr 0 1) ∧
    h.flags.toNat = be hdr 4 1 ∧
    h.length.toNat = be hdr 5 3 ∧
    be hdr 4 4 % 2 ^ 24 = be hdr 5 3 ∧
    (h.control = true →
      h.version.map BitVec.toNat = some (be hdr 0 2 % 2 ^ 15) ∧
      h.type.map BitVec.toNat = some (be hdr 2 2) ∧ h.id = none) ∧
    (h.control = false →
      h.id.map BitVec.toNat = some (be hdr 0 4 % 2 ^ 31) ∧ h.version = none ∧ h.type = none)

/-- A header literal whose values fit assembles to bytes that decode to its fields, and one whose
values do not fit is an assembly error; FRAME needs a body of the header's length (R95). -/
def Obligations.HeaderLiteralsDecodeToTheirFields : Prop :=
  (∀ v t f l : Nat, v < 2 ^ 15 → t < 2 ^ 16 → f < 2 ^ 8 → l < 2 ^ 24 →
    ∃ b, assembleCtrl v t f l = some b ∧ b.length = 8 ∧
      hdrDecode (wordOfBytes b) =
        { control := true, version := some (BitVec.ofNat 16 v), type := some (BitVec.ofNat 16 t),
          id := none, flags := BitVec.ofNat 8 f, length := BitVec.ofNat 24 l } ∧
      ∀ body : Bytes, assembleFrame (some b) body = if body.length = l then some [b, body] else none) ∧
  (∀ id f l : Nat, id < 2 ^ 31 → f < 2 ^ 8 → l < 2 ^ 24 →
    ∃ b, assembleData id f l = some b ∧ b.length = 8 ∧
      hdrDecode (wordOfBytes b) =
        { control := false, version := none, type := none, id := some (BitVec.ofNat 32 id),
          flags := BitVec.ofNat 8 f, length := BitVec.ofNat 24 l } ∧
      ∀ body : Bytes, assembleFrame (some b) body = if body.length = l then some [b, body] else none) ∧
  (∀ v t f l : Nat, 2 ^ 15 ≤ v ∨ 2 ^ 16 ≤ t ∨ 2 ^ 8 ≤ f ∨ 2 ^ 24 ≤ l → assembleCtrl v t f l = none) ∧
  (∀ id f l : Nat, 2 ^ 31 ≤ id ∨ 2 ^ 8 ≤ f ∨ 2 ^ 24 ≤ l → assembleData id f l = none)

/-- Header words written out from 30_encoding.md R81 to R83 and 95_test_vectors.md H-01 to H-16
decode to the headers they stand for. -/
def Obligations.SpecHeaderWordsDecode : Prop :=
  decode [0x80, 0x03, 0x00, 0x06, 0x00, 0x00, 0x00, 0x04] = .ok (.ping 3 0x00 4) ∧
  decode [0x7F, 0xFF, 0xFF, 0xFF, 0x02, 0x00, 0x00, 0x00] = .ok (.data 0x7FFFFFFF 0x02 0) ∧
  decode [0x00, 0x00, 0x00, 0x01, 0x80, 0x12, 0x34, 0x56] = .ok (.data 1 0x80 0x123456) ∧
  decode [0x81, 0x02, 0x00, 0x01, 0x00, 0x00, 0x00, 0x0A] = .ok (.synStream 258 0x00 10) ∧
  decode [0x80, 0x02, 0x00, 0x05, 0xFF, 0x00, 0x00, 0x01] = .ok (.noop 2 0xFF 1) ∧
  decode [0x80, 0x02, 0x00, 0x09, 0x00, 0x00, 0x00, 0x08] = .ok (.windowUpdate 2 0x00 8) ∧
  decode [0x80, 0x03, 0xF0, 0x00, 0x00, 0x00, 0x00, 0x07] = .ok (.xForwarded 3 0x00 7) ∧
  decode [0xFF, 0xFF, 0xFF, 0xFF, 0xFF, 0xFF, 0xFF, 0xFF] = .ok (.unknown 0x7FFF 0xFFFF 0xFF 0xFFFFFF)

/-! ### The step around exec -/

/-- A step runs the decoded header. Phase HDR: when the oldest chunk on the supply port has NEED bytes
and is a header, step takes it off the port and is exec of it. Phase BODY: step on a SUPPLY is exec of
the header in HDR_REG, with the chunk put on the supply port (10_state.md R25, R36, R40). -/
def Obligations.StepRunsTheDecodedHeader : Prop :=
  (∀ (s : State) (e : List Event) (b c : Bytes) (port : List Bytes) (i : Instr),
    s.events = .supply b :: e → s.supplyPort ++ [b] = c :: port → s.phase = .hdr →
    c.length = s.need.toNat → decode c = .ok i →
    step s = exec i { s with events := e, supplyPort := port }) ∧
  (∀ (s : State) (e : List Event) (b : Bytes),
    s.events = .supply b :: e → s.phase = .body →
    step s = exec (decodeWord s.hdrReg) { s with events := e, supplyPort := s.supplyPort ++ [b] })

/-- With no transaction to come, or at an `advance`, the block takes its own step: a KV read step, or
the SUPPLY that has waited longest, as soon as the port is ready; and with neither it is idle and
holds its state (R20, R141, R170, R266). `advance` and the waiting queue are the model's (log
entry 1). -/
def Obligations.BlockTakesItsOwnStep : Prop :=
  ∀ s : State, (s.events = [] ∨ s.events.head? = some .advance) →
    (kvReading s.kvState = true → step s = kvStep { s with events := s.events.tail }) ∧
    (kvReading s.kvState = false → s.supplyPort = [] →
      step s = .next { s with events := s.events.tail }) ∧
    (kvReading s.kvState = false → supplyReady s = false →
      step s = .next { s with events := s.events.tail }) ∧
    (∀ c port i, kvReading s.kvState = false → s.phase = .hdr → s.supplyPort = c :: port →
      c.length = s.need.toNat → decode c = .ok i →
      step s = exec i { s with events := s.events.tail, supplyPort := port }) ∧
    (kvReading s.kvState = false → s.phase = .body →
      step s = exec (decodeWord s.hdrReg) { s with events := s.events.tail })

/-! ### Header phase -/

/-- SUPPLY_HEADER for every class: a data header, or a control header that passes the version check,
is kept, its body is asked for, and the first control header pins the version (R131, R132). -/
def Obligations.AcceptedHeaderAwaitsItsBody : Prop :=
  ∀ (i : Instr) (s : State), s.phase = .hdr → versionPasses i s →
    exec i s = .next { s with
      hdrReg := encodeWord i
      phase := .body
      need := i.bodyLength
      verValid := s.verValid || i.version?.isSome
      ver := match i.version? with
        | none => s.ver
        | some v => if s.verValid then s.ver else v }

/-- A SUPPLY of 8 bytes in phase HDR: HDR_REG ← be(bytes, 0, 8), PHASE ← BODY, NEED ← length, and the
version pinned by the first control header; or, when the check fails, error entry (R131, R132). -/
def Obligations.SupplyHeaderStep : Prop :=
  ∀ (s : State) (e : List Event) (b : Bytes),
    s.events = .supply b :: e → s.supplyPort = [] → s.phase = .hdr → s.need = 8 → b.length = 8 →
    let h := hdrDecode (wordOfBytes b)
    (h.control = false →
      step s = .next { s with
        events := e, hdrReg := BitVec.ofNat 64 (be b 0 8), phase := .body, need := h.length }) ∧
    (∀ v : BitVec 15, h.version = some (v.setWidth 16) →
      (s.verValid = false → (v = 2 ∨ v = 3) →
        step s = .next { s with
          events := e, hdrReg := BitVec.ofNat 64 (be b 0 8), phase := .body, need := h.length
          ver := v, verValid := true }) ∧
      (s.verValid = true → v = s.ver →
        step s = .next { s with
          events := e, hdrReg := BitVec.ofNat 64 (be b 0 8), phase := .body, need := h.length }) ∧
      ((s.verValid = false ∧ v ≠ 2 ∧ v ≠ 3) ∨ (s.verValid = true ∧ v ≠ s.ver) →
        step s = .next { s with
          events := e, err := .unsupportedVersion, need := 0, phase := .fatal
          outputs := s.outputs ++ [.fail (.unsupportedVersion v)] }))

/-- The version check and the pin with VERSION_RECHECK as a parameter: before a version is pinned
exactly 2 and 3 pass, and the one that passes is pinned; after, the pinned one passes, another one is
fatal with the recheck and passes without it, and VER is never rewritten (R132). -/
def Obligations.VersionRecheckIsAParameter : Prop :=
  ∀ (i : Instr) (s : State) (v : BitVec 15) (recheck : Bool), i.version? = some v →
    let t := supplyHeader recheck i s
    (s.verValid = false → v = 2 ∨ v = 3 → t.phase = .body ∧ t.verValid = true ∧ t.ver = v) ∧
    (s.verValid = false → v ≠ 2 → v ≠ 3 →
      t.phase = .fatal ∧ t.verValid = false ∧ t.ver = s.ver) ∧
    (s.verValid = true → t.verValid = true ∧ t.ver = s.ver) ∧
    (s.verValid = true → v = s.ver ∨ recheck = false → t.phase = .body) ∧
    (s.verValid = true → v ≠ s.ver → recheck = true → t.phase = .fatal)

/-! ### Body phase -/

/-- DATA: the raw body is emitted with the id and flags bits 0 and 1 of its header, and the next 8
bytes are asked for (R133): first as exec of the header on a body standing on the supply port, then as
the step on a SUPPLY of the body, with the fields read from HDR_REG. -/
def Obligations.DataBodyIsEmittedRaw : Prop :=
  (∀ (id : BitVec 31) (flags : BitVec 8) (length : BitVec 24) (s : State) (b : Bytes)
    (port : List Bytes),
    s.phase = .body → s.supplyPort = b :: port → b.length = s.need.toNat →
    exec (.data id flags length) s = .next { s with
      phase := .hdr, need := 8, supplyPort := port
      outputs := s.outputs ++
        [.emit (.data id (flags.toNat % 2 == 1) (flags.toNat / 2 % 2 == 1) b)] }) ∧
  (∀ (id : BitVec 31) (s : State) (e : List Event) (b : Bytes),
    s.events = .supply b :: e → s.supplyPort = [] → s.phase = .body → b.length = s.need.toNat →
    (hdrDecode s.hdrReg).id = some (id.setWidth 32) →
    step s = .next { s with
      events := e, phase := .hdr, need := 8
      outputs := s.outputs ++
        [.emit (.data id ((hdrDecode s.hdrReg).flags.toNat % 2 == 1)
          ((hdrDecode s.hdrReg).flags.toNat / 2 % 2 == 1) b)] })

/-- NOOP: an empty Noop frame, whatever the body (R134): as exec of the header, and as the step on a
SUPPLY of the body when HDR_REG holds a NOOP header. -/
def Obligations.NoopBodyIsDropped : Prop :=
  (∀ (v : BitVec 15) (flags : BitVec 8) (length : BitVec 24) (s : State) (b : Bytes)
    (port : List Bytes),
    s.phase = .body → s.supplyPort = b :: port → b.length = s.need.toNat →
    exec (.noop v flags length) s = .next { s with
      phase := .hdr, need := 8, supplyPort := port, outputs := s.outputs ++ [.emit .noop] }) ∧
  (∀ (s : State) (e : List Event) (b : Bytes),
    s.events = .supply b :: e → s.supplyPort = [] → s.phase = .body → b.length = s.need.toNat →
    (hdrDecode s.hdrReg).type = some 0x0005 →
    step s = .next { s with
      events := e, phase := .hdr, need := 8, outputs := s.outputs ++ [.emit .noop] })

/-- UNKNOWN: the raw body tagged with the type, not an error (R135): as exec of the header, and as the
step on a SUPPLY of the body when the type in HDR_REG is none of those R87 lists. -/
def Obligations.UnknownBodyIsPassedThrough : Prop :=
  (∀ (v : BitVec 15) (type : BitVec 16) (flags : BitVec 8) (length : BitVec 24) (s : State)
    (b : Bytes) (port : List Bytes),
    s.phase = .body → s.supplyPort = b :: port → b.length = s.need.toNat →
    exec (.unknown v type flags length) s = .next { s with
      phase := .hdr, need := 8, supplyPort := port
      outputs := s.outputs ++ [.emit (.unknown type b)] }) ∧
  (∀ (type : BitVec 16) (s : State) (e : List Event) (b : Bytes),
    s.events = .supply b :: e → s.supplyPort = [] → s.phase = .body → b.length = s.need.toNat →
    (hdrDecode s.hdrReg).type = some type → type ∉ listedTypes →
    step s = .next { s with
      events := e, phase := .hdr, need := 8
      outputs := s.outputs ++ [.emit (.unknown type b)] })

/-- The nine body-decoded classes: the body goes to BODY_BUF and out on DISPATCH with its selector,
the decoded header and the pinned version, and the block is BUSY asking for nothing (R136): as exec of
the header of each class, and as the step on a SUPPLY of the body, by the type in HDR_REG. -/
def Obligations.ControlBodyIsDispatched : Prop :=
  (∀ (v : BitVec 15) (flags : BitVec 8) (length : BitVec 24) (s : State) (b : Bytes)
    (port : List Bytes),
    s.phase = .body → s.supplyPort = b :: port → b.length = s.need.toNat →
    let hdr (type : BitVec 16) : FrameHeader :=
      { control := true, version := some (v.setWidth 16), type := some type, id := none,
        flags := flags, length := length }
    let after (c : BodyClass) (type : BitVec 16) : State :=
      { s with
        phase := .busy, need := 0, bodyBuf := b, supplyPort := port
        outputs := s.outputs ++
          [.dispatch c (hdr type) b (if s.verValid then some s.ver else none)] }
    exec (.synStream v flags length) s = .next (after .synStream 0x0001) ∧
    exec (.synReply v flags length) s = .next (after .synReply 0x0002) ∧
    exec (.rstStream v flags length) s = .next (after .rstStream 0x0003) ∧
    exec (.settings v flags length) s = .next (after .settings 0x0004) ∧
    exec (.ping v flags length) s = .next (after .ping 0x0006) ∧
    exec (.goaway v flags length) s = .next (after .goaway 0x0007) ∧
    exec (.headers v flags length) s = .next (after .headers 0x0008) ∧
    exec (.windowUpdate v flags length) s = .next (after .windowUpdate 0x0009) ∧
    exec (.xForwarded v flags length) s = .next (after .xForwarded 0xF000)) ∧
  (∀ (type : BitVec 16) (c : BodyClass) (s : State) (e : List Event) (b : Bytes),
    s.events = .supply b :: e → s.supplyPort = [] → s.phase = .body → b.length = s.need.toNat →
    (hdrDecode s.hdrReg).type = some type → sel type = .decoder c →
    step s = .next { s with
      events := e, phase := .busy, need := 0, bodyBuf := b
      outputs := s.outputs ++
        [.dispatch c (hdrDecode s.hdrReg) b (if s.verValid then some s.ver else none)] })

/-- A SUPPLY presented in BUSY, ERROR or FATAL waits: no register changes and nothing is signalled
(R141, R74). It stands on the port until it is taken, which exec does not do there. -/
def Obligations.SupplyWaitsWhileNotReady : Prop :=
  ∀ s : State, (s.phase = .busy ∨ s.phase = .error ∨ s.phase = .fatal) →
    (∀ i : Instr, exec i s = .next s) ∧
    (∀ (b : Bytes) (e : List Event), s.events = .supply b :: e →
      step s = .next { s with events := e, supplyPort := s.supplyPort ++ [b] })

/-- A SUPPLY whose length differs from NEED is refused while the port is ready (R142). -/
def Obligations.WrongLengthSupplyIsRefused : Prop :=
  ∀ (s : State) (e : List Event) (b : Bytes),
    s.events = .supply b :: e → s.supplyPort = [] → (s.phase = .hdr ∨ s.phase = .body) →
    b.length ≠ s.need.toNat → step s = .refused .wrongLengthSupply

/-- A header of length L asks for exactly L bytes, zero included, and a frame that completes asks for
exactly 8; a frame that fails leaves NEED = 0 with SUPPLY_READY = 0, and so it stays in the error
phase (R140, R143). -/
def Obligations.RequestCountsFollowTheFrame : Prop :=
  ∀ s t : State, step s = .next t →
    (s.phase = .hdr → t.phase = .body →
      t.need = (hdrDecode t.hdrReg).length ∧ supplyReady t = true) ∧
    (s.phase = .body ∨ s.phase = .busy → t.phase = .hdr → t.need = 8 ∧ supplyReady t = true) ∧
    (t.phase = .error ∨ t.phase = .fatal → s.phase ≠ t.phase →
      t.need = 0 ∧ supplyReady t = false) ∧
    (t.phase = .error ∨ t.phase = .fatal → s.phase = t.phase →
      t.need = s.need ∧ supplyReady t = false)

/-! ### Completion, errors, caller control -/

/-- BODY_DONE emits the frame as it came and asks for the next header; outside BUSY with the KV unit
idle it is refused (R137). -/
def Obligations.BodyDoneEmitsTheFrame : Prop :=
  ∀ (s : State) (e : List Event) (f : Frame), s.events = .bodyDone f :: e →
    (s.phase = .busy → s.kvState = .idle →
      step s = .next { s with
        events := e, phase := .hdr, need := 8, outputs := s.outputs ++ [.emit f] }) ∧
    (s.phase ≠ .busy ∨ s.kvState ≠ .idle → step s = .refused .bodyAnswerNotAwaited)

/-- BODY_ERR is error entry with its code, and the code's payload unchanged: ERR, FAIL, NEED ← 0,
PHASE ← ERROR (R138, R250, R254, R256); outside BUSY with the KV unit idle it is refused. -/
def Obligations.BodyErrEntersError : Prop :=
  ∀ (s : State) (e : List Event) (code : BodyErr), s.events = .bodyErr code :: e →
    (s.phase = .busy → s.kvState = .idle →
      step s = .next { s with
        events := e, phase := .error, need := 0
        err := match code with
          | .frameTruncated => .frameTruncated
          | .headerBlockTruncated => .headerBlockTruncated
          | .codecError _ => .codecError
        outputs := s.outputs ++ [.fail (match code with
          | .frameTruncated => .frameTruncated
          | .headerBlockTruncated => .headerBlockTruncated
          | .codecError p => .codecError p)] }) ∧
    (s.phase ≠ .busy ∨ s.kvState ≠ .idle → step s = .refused .bodyAnswerNotAwaited)

/-- RESUME returns from ERROR to HDR with NEED = 8 and nothing else changed; in every other phase it
is refused (R139, R257). -/
def Obligations.ResumeReturnsFromError : Prop :=
  ∀ (s : State) (e : List Event), s.events = .resume :: e →
    (s.phase = .error → step s = .next { s with events := e, phase := .hdr, need := 8 }) ∧
    (s.phase ≠ .error → step s = .refused .resumeOutsideError)

/-- RESET is accepted in every state, leaves every register the spec gives a value with it, and
signals nothing; STATUS and NEED_R then read as R280's example says. -/
def Obligations.ResetLeavesTheResetValues : Prop :=
  ∀ (s : State) (e : List Event), s.events = .reset :: e →
    ∃ t, step s = .next t ∧
      t.phase = .hdr ∧ t.need = 8 ∧ t.verValid = false ∧ t.ver = 0 ∧ t.err = .none ∧
      t.kvState = .idle ∧ t.kvPairs = [] ∧ t.kvBuf = [] ∧ t.bodyBuf = [] ∧
      t.outputs = s.outputs ∧ statusView t = 0x00000000 ∧ needView t = 0x01000008

/-- The state at power-on is the state after RESET: the registers after a RESET, in any state, are
those of State.reset, with the values R49 gives (R281). The registers R49 leaves unspecified agree
too, which is the model's choice (log entry 4), and what is still to come or waits stays (log
entry 12). -/
def Obligations.PowerOnIsTheStateAfterReset : Prop :=
  (∀ (s : State) (e : List Event), s.events = .reset :: e →
    ∃ t, step s = .next t ∧ t.supplyPort = s.supplyPort ∧ t.events = e ∧
      { t with supplyPort := [], events := [], outputs := [] } = State.reset) ∧
  State.reset.phase = .hdr ∧ State.reset.need = 8 ∧ State.reset.verValid = false ∧
  State.reset.ver = 0 ∧ State.reset.err = .none ∧ State.reset.kvState = .idle ∧
  State.reset.bodyBuf = [] ∧ State.reset.kvBuf = [] ∧ State.reset.kvPairs = []

/-- The fields of STATUS and NEED_R, read as numbers (R38): STATUS = PHASE | VER_VALID<<3 | ERR<<4 |
VER<<8 | KV_STATE<<23, with VER as 0 while unset, and NEED_R = NEED | SUPPLY_READY<<24. -/
def Obligations.StatusViewsHoldTheirFields : Prop :=
  statusView State.reset = 0 ∧ needView State.reset = 0x01000008 ∧
  ∀ s : State,
    (statusView s).toNat =
      (match s.phase with
        | .hdr => 0 | .body => 1 | .busy => 2 | .error => 3 | .fatal => 4) +
      (if s.verValid then 2 ^ 3 else 0) +
      (match s.err with
        | .none => 0 | .unsupportedVersion => 1 | .frameTruncated => 2
        | .headerBlockTruncated => 3 | .codecError => 4) * 2 ^ 4 +
      (if s.verValid then s.ver.toNat else 0) * 2 ^ 8 +
      (match s.kvState with
        | .idle => 0 | .decomp => 1 | .count => 2 | .nlen => 3 | .name => 4 | .vlen => 5
        | .value => 6) * 2 ^ 23 ∧
    (needView s).toNat =
      s.need.toNat + (if s.phase = .hdr ∨ s.phase = .body then 2 ^ 24 else 0)

/-! ### KV unit -/

/-- KV_START sets the width by the pinned version, empties the pair store and issues one DECOMP_REQ
with the range and VER; unless PHASE = BUSY, KV_STATE = IDLE and VER_VALID = 1 it is refused (R171). -/
def Obligations.KvStartRequestsDecompression : Prop :=
  ∀ (s : State) (e : List Event) (c : Bytes), s.events = .kvStart c :: e →
    (s.phase = .busy → s.kvState = .idle → s.verValid = true →
      step s = .next { s with
        events := e, kvW := if s.ver = 2 then .two else .four, kvPairs := [], kvState := .decomp
        outputs := s.outputs ++ [.decompReq c s.ver] }) ∧
    (s.phase ≠ .busy ∨ s.kvState ≠ .idle ∨ s.verValid = false →
      step s = .refused .kvStartNotAccepted)

/-- DECOMP_OK, with the model's KV_BUF_MAX, whatever it is: a buffer that fits is loaded and read from
its front; one longer than a finite KV_BUF_MAX is CodecError(BufferOverflow), with the buffer, its
position and the pair store as they were; outside DECOMP it is refused (R172). -/
def Obligations.DecompOkLoadsTheBuffer : Prop :=
  ∀ (s : State) (e : List Event) (d : Bytes), s.events = .decompOk d :: e →
    step s = decompOk Config.kvBufMax d { s with events := e } ∧
    ∀ max : Option Nat,
      (s.kvState = .decomp → (∀ m, max = some m → d.length ≤ m) →
        decompOk max d { s with events := e } =
          .next { s with events := e, kvBuf := d, kvPos := 0, kvState := .count }) ∧
      (∀ m, s.kvState = .decomp → max = some m → m < d.length →
        decompOk max d { s with events := e } = .next { s with
          events := e, kvState := .idle
          outputs := s.outputs ++ [.kvErr (.codecError .bufferOverflow)] }) ∧
      (s.kvState ≠ .decomp →
        decompOk max d { s with events := e } = .refused .codecAnswerNotAwaited)

/-- DECOMP_ERR passes the codec's payload on unchanged and drops the block; outside DECOMP it is
refused (R173, R254). -/
def Obligations.DecompErrPassesThePayloadOn : Prop :=
  ∀ (s : State) (e : List Event) (p : Bytes), s.events = .decompErr p :: e →
    (s.kvState = .decomp →
      step s = .next { s with
        events := e, kvPairs := [], kvState := .idle
        outputs := s.outputs ++ [.kvErr (.codecError (.codec p))] }) ∧
    (s.kvState ≠ .decomp → step s = .refused .codecAnswerNotAwaited)

/-- KV_COUNT: the count field is loaded into KV_REM and stepped over; a count of 0 delivers the empty
store, another goes on to the first name; too few bytes truncate the block (R174, R181, R182). -/
def Obligations.KvCountReadsTheCount : Prop :=
  ∀ s : State, s.events = [] → s.kvState = .count →
    let w := widthBytes s.kvW
    (s.kvBuf.length < s.kvPos + w →
      step s = .next { s with
        kvPairs := [], kvState := .idle
        outputs := s.outputs ++ [.kvErr .headerBlockTruncated] }) ∧
    (s.kvPos + w ≤ s.kvBuf.length → be s.kvBuf s.kvPos w = 0 →
      step s = .next { s with
        kvRem := 0, kvPos := s.kvPos + w, kvState := .idle
        outputs := s.outputs ++ [.kvDone s.kvPairs] }) ∧
    (s.kvPos + w ≤ s.kvBuf.length → be s.kvBuf s.kvPos w ≠ 0 →
      step s = .next { s with
        kvRem := BitVec.ofNat 32 (be s.kvBuf s.kvPos w), kvPos := s.kvPos + w, kvState := .nlen })

/-- KV_NLEN and KV_VLEN: the length prefix is loaded, zero-extended with no bit lost, and stepped over;
too few bytes truncate the block (R175, R177). -/
def Obligations.KvPrefixesAreLoaded : Prop :=
  ∀ s : State, s.events = [] → (s.kvState = .nlen ∨ s.kvState = .vlen) →
    let w := widthBytes s.kvW
    (BitVec.ofNat 32 (be s.kvBuf s.kvPos w)).toNat = be s.kvBuf s.kvPos w ∧
    (s.kvBuf.length < s.kvPos + w →
      step s = .next { s with
        kvPairs := [], kvState := .idle
        outputs := s.outputs ++ [.kvErr .headerBlockTruncated] }) ∧
    (s.kvPos + w ≤ s.kvBuf.length → s.kvState = .nlen →
      step s = .next { s with
        kvNlen := BitVec.ofNat 32 (be s.kvBuf s.kvPos w), kvPos := s.kvPos + w, kvState := .name }) ∧
    (s.kvPos + w ≤ s.kvBuf.length → s.kvState = .vlen →
      step s = .next { s with
        kvVlen := BitVec.ofNat 32 (be s.kvBuf s.kvPos w), kvPos := s.kvPos + w, kvState := .value })

/-- KV_NAME: the name bytes are kept as they stand and stepped over; the check does not wrap (R176). -/
def Obligations.KvNameIsKept : Prop :=
  ∀ s : State, s.events = [] → s.kvState = .name →
    (s.kvBuf.length < s.kvPos + s.kvNlen.toNat →
      step s = .next { s with
        kvPairs := [], kvState := .idle
        outputs := s.outputs ++ [.kvErr .headerBlockTruncated] }) ∧
    (s.kvPos + s.kvNlen.toNat ≤ s.kvBuf.length →
      step s = .next { s with
        kvName := slice s.kvBuf s.kvPos s.kvNlen.toNat
        kvPos := s.kvPos + s.kvNlen.toNat, kvState := .vlen })

/-- KV_VALUE: the stripped name and the value are inserted and KV_REM counts down; the last pair
delivers the store whole, another goes on to the next name; a value too short inserts nothing and
drops the block (R178, R181, R182). -/
def Obligations.KvValueInsertsThePair : Prop :=
  ∀ s : State, s.events = [] → s.kvState = .value →
    let n := s.kvVlen.toNat
    let pairs := insertPair s.kvPairs (strip s.kvName s.ver) (slice s.kvBuf s.kvPos n)
    (s.kvBuf.length < s.kvPos + n →
      step s = .next { s with
        kvPairs := [], kvState := .idle
        outputs := s.outputs ++ [.kvErr .headerBlockTruncated] }) ∧
    (s.kvPos + n ≤ s.kvBuf.length → s.kvRem = 1 →
      step s = .next { s with
        kvPos := s.kvPos + n, kvPairs := pairs, kvRem := 0, kvState := .idle
        outputs := s.outputs ++ [.kvDone pairs] }) ∧
    (s.kvPos + n ≤ s.kvBuf.length → s.kvRem ≠ 1 →
      step s = .next { s with
        kvPos := s.kvPos + n, kvPairs := pairs, kvRem := s.kvRem - 1, kvState := .nlen })

/-- STRIP takes one leading colon under version 3 and nothing else (R179). -/
def Obligations.StripTakesOneLeadingColon : Prop :=
  (∀ rest : Bytes, strip (0x3A :: rest) 3 = rest) ∧
  (∀ (name : Bytes) (v : BitVec 15), v ≠ 3 ∨ name.head? ≠ some 0x3A → strip name v = name)

/-- INSERT: a new name goes to the end; one already there keeps its place and every other pair, and
takes the value; the names stay distinct (R180). -/
def Obligations.InsertKeepsOrderAndTakesLastValue : Prop :=
  ∀ (pairs : Pairs) (name value : Bytes),
    (name ∉ pairs.map Prod.fst → insertPair pairs name value = pairs ++ [(name, value)]) ∧
    (name ∈ pairs.map Prod.fst →
      (insertPair pairs name value).map Prod.fst = pairs.map Prod.fst ∧
      ∀ k : Nat, (insertPair pairs name value)[k]? =
        (pairs[k]?).map (fun p => if p.1 = name then (name, value) else p)) ∧
    ((pairs.map Prod.fst).Nodup → ((insertPair pairs name value).map Prod.fst).Nodup)

/-- From the acceptance of a buffer D, the internal steps deliver exactly KV_PARSE(D, VER): KV_DONE
with its pairs, or KV_ERR HeaderBlockTruncated; the KV unit is then idle, and nothing outside it has
changed (R183, R170). -/
def Obligations.KvStepsComputeKvParse : Prop :=
  ∀ s : State, s.events = [] → s.kvState = .count → s.kvPos = 0 → s.kvPairs = [] →
    s.kvW = widthOf s.ver →
    ∃ (n : Nat) (t : State), Host.Core.run core n s = .next t ∧
      t.outputs = s.outputs ++ [match kvParse s.kvBuf s.ver with
        | some pairs => .kvDone pairs
        | none => .kvErr .headerBlockTruncated] ∧
      t.kvPairs = (kvParse s.kvBuf s.ver).getD [] ∧
      t.kvState = .idle ∧ t.kvBuf = s.kvBuf ∧ t.phase = s.phase ∧ t.need = s.need ∧
      t.verValid = s.verValid ∧ t.ver = s.ver ∧ t.err = s.err ∧ t.hdrReg = s.hdrReg ∧
      t.bodyBuf = s.bodyBuf ∧ t.supplyPort = s.supplyPort ∧ t.events = []

/-- While a KV block is being read no other transaction is taken: whatever comes, RESET and `advance`
apart, is refused or, if it is the transport's, changes the supply port alone (R170, R183, R141). -/
def Obligations.ReadStatesTakeNoOtherTransaction : Prop :=
  ∀ (s : State) (e : Event) (rest : List Event),
    BlockInv s → kvReading s.kvState = true → s.events = e :: rest → e ≠ .reset → e ≠ .advance →
    (∃ r, step s = .refused r) ∨
    (∃ port, step s = .next { s with events := rest, supplyPort := port } ∧
      ((∃ b, e = .supply b) ∨ e = .withdraw))

/-- A block laid out as R85 says is parsed to its pairs, inserted in order with stripped names,
whatever bytes follow it (R85, R183, R184); with distinct stripped names it gives exactly those N
pairs (R186). -/
def Obligations.LaidOutBlockParsesToItsPairs : Prop :=
  ∀ (v : BitVec 15) (pairs : Pairs) (trailing : Bytes), kvFits v pairs = true →
    kvParse (kvBlock v pairs ++ trailing) v = some (kvInsertAll v pairs) ∧
    ((pairs.map (fun p => strip p.1 v)).Nodup →
      kvInsertAll v pairs = pairs.map (fun p => (strip p.1 v, p.2)))

/-- Bytes after what a successful parse reads are ignored (R184). -/
def Obligations.TrailingBytesAreIgnored : Prop :=
  ∀ (d trailing : Bytes) (v : BitVec 15) (pairs : Pairs),
    kvParse d v = some pairs → kvParse (d ++ trailing) v = some pairs

/-- A parse delivers at most count pairs, with pairwise distinct names (R186, R39 g). -/
def Obligations.ParseDeliversAtMostCountPairs : Prop :=
  ∀ (d : Bytes) (v : BitVec 15) (pairs : Pairs), kvParse d v = some pairs →
    pairs.length ≤ be d 0 (widthBytes (widthOf v)) ∧ (pairs.map Prod.fst).Nodup

/-- A version-3 block with count < 65536, read under version 2, gives the empty list and no error
(R185 a). -/
def Obligations.Version3BlockReadAsVersion2IsEmpty : Prop :=
  ∀ d : Bytes, 4 ≤ d.length → be d 0 4 < 65536 → kvParse d 2 = some []

/-! ### The whole machine -/

/-- No step reads past the end of a buffer: step never faults, in any state (R8, R69). -/
def Obligations.NoStepFaults : Prop :=
  ∀ (s : State) (r : Fault), step s ≠ .fault r

/-- Only RESET leaves FATAL, and in ERROR only RESET and RESUME change the phase (R257, R139). -/
def Obligations.ErrorPhasesAreLeftOnlyByTheCaller : Prop :=
  ∀ s t : State, step s = .next t →
    (s.phase = .fatal → t.phase = .fatal ∨ s.events.head? = some .reset) ∧
    (s.phase = .error →
      t.phase = .error ∨ s.events.head? = some .reset ∨ s.events.head? = some .resume)

/-- While PHASE is ERROR or FATAL no error is raised: no FAIL, and ERR stays until RESET (R258). -/
def Obligations.ErrorsDoNotNest : Prop :=
  ∀ s t : State, s.phase = .error ∨ s.phase = .fatal → step s = .next t →
    failCount t = failCount s ∧ (t.err = s.err ∨ s.events.head? = some .reset)

/-- The pinned version is immutable until reset, and what a step pins is 2 or 3 (R24, R132 e). -/
def Obligations.PinnedVersionIsImmutable : Prop :=
  ∀ s t : State, step s = .next t → s.events.head? ≠ some .reset →
    (s.verValid = true → t.verValid = true ∧ t.ver = s.ver) ∧
    (s.verValid = false →
      (t.verValid = false ∧ t.ver = s.ver) ∨ (t.verValid = true ∧ (t.ver = 2 ∨ t.ver = 3)))

/-- Outputs are only ever added, in order, and a step ends a frame (one EMIT or one FAIL) exactly when
it leaves BODY or BUSY for HDR or enters an error phase (R73 a, R144, R256, R260). -/
def Obligations.EachFrameEndsExactlyOnce : Prop :=
  ∀ s t : State, step s = .next t → s.events.head? ≠ some .reset →
    (∃ o : List Output, t.outputs = s.outputs ++ o ∧ o.length ≤ 1) ∧
    framesEnded t = framesEnded s +
      (if (t.phase = .hdr ∧ (s.phase = .body ∨ s.phase = .busy)) ∨
          ((t.phase = .error ∨ t.phase = .fatal) ∧ s.phase ≠ t.phase) then 1 else 0)

/-- Each KV_START issues exactly one DECOMP_REQ, and no other step issues one (R71, R171). -/
def Obligations.OneDecompressionRequestPerKvStart : Prop :=
  ∀ s t : State, step s = .next t →
    requestCount t = requestCount s +
      (match s.events.head? with
        | some (.kvStart _) => 1
        | _ => 0)

/-- A transaction is taken, or waits, exactly when the rules of its port say so; otherwise the step is
a refusal (R40 to R46, R141, R142). Stated for the states of the invariant. -/
def Obligations.TransactionsAreAcceptedByTheirPortsRule : Prop :=
  ∀ (s : State) (e : Event) (rest : List Event), BlockInv s → s.events = e :: rest →
    ((∃ t, step s = .next t) ↔ accepted e s = true) ∧
    ((∃ r, step s = .refused r) ↔ accepted e s = false)

/-- Every step keeps the invariant of R39. -/
def Obligations.EveryStepKeepsTheInvariant : Prop :=
  ∀ s t : State, BlockInv s → step s = .next t → BlockInv t

/-- The state at reset meets the invariant of R39, and its pair store fits. -/
def Obligations.ResetMeetsTheInvariant : Prop :=
  BlockInv State.reset ∧ PairsFit State.reset

/-- Every step keeps the pair store within what KV_BUF can hold (R35). -/
def Obligations.EveryStepKeepsThePairStoreBounded : Prop :=
  ∀ s t : State, PairsFit s → step s = .next t → PairsFit t

/-- No rule reads a register before it is written: two states that differ only in registers whose
content is not meaningful take the same step, signal the same outputs, and agree again (R25, R26,
R49). -/
def Obligations.UnreadRegistersHaveNoEffect : Prop :=
  ∀ s t : State, Agree s t → AgreeOutcome (step s) (step t)

/-! ### Frames -/

/-- DATA, NOOP and UNKNOWN leave the KV unit, BODY_BUF and what the hosts do next alone, in every
phase; in BODY only PHASE, NEED, the port and the outputs change; in HDR only the header's registers,
ERR and the outputs; no byte of either byte space changes (R131 to R135, R69). -/
def Obligations.SelfHandledClassesFrame : Prop :=
  ∀ (i : Instr) (s t : State),
    ((∃ id f l, i = .data id f l) ∨ (∃ v f l, i = .noop v f l) ∨ (∃ v ty f l, i = .unknown v ty f l)) →
    exec i s = .next t →
    (t.kvState = s.kvState ∧ t.kvW = s.kvW ∧ t.kvBuf = s.kvBuf ∧ t.kvPos = s.kvPos ∧
      t.kvRem = s.kvRem ∧ t.kvNlen = s.kvNlen ∧ t.kvVlen = s.kvVlen ∧ t.kvName = s.kvName ∧
      t.kvPairs = s.kvPairs ∧ t.bodyBuf = s.bodyBuf ∧ t.events = s.events) ∧
    (s.phase ≠ .hdr →
      t.hdrReg = s.hdrReg ∧ t.verValid = s.verValid ∧ t.ver = s.ver ∧ t.err = s.err) ∧
    (s.phase ≠ .body → t.supplyPort = s.supplyPort) ∧
    ((∃ id f l, i = .data id f l) →
      t.verValid = s.verValid ∧ t.ver = s.ver ∧ t.err = s.err) ∧
    ∀ (sp : Space) (off : Nat), readByte t sp off = readByte s sp off

/-- The nine dispatched classes leave the KV unit and what the hosts do next alone, in every phase;
of the byte spaces only BODY_BUF is written, in BODY, with the chunk taken off the port, and KV_BUF
never (R131, R132, R136). -/
def Obligations.DispatchedClassesFrame : Prop :=
  ∀ (i : Instr) (s t : State),
    ((∃ v f l, i = .synStream v f l) ∨ (∃ v f l, i = .synReply v f l) ∨
      (∃ v f l, i = .rstStream v f l) ∨ (∃ v f l, i = .settings v f l) ∨ (∃ v f l, i = .ping v f l) ∨
      (∃ v f l, i = .goaway v f l) ∨ (∃ v f l, i = .headers v f l) ∨
      (∃ v f l, i = .windowUpdate v f l) ∨ (∃ v f l, i = .xForwarded v f l)) →
    exec i s = .next t →
    (t.kvState = s.kvState ∧ t.kvW = s.kvW ∧ t.kvBuf = s.kvBuf ∧ t.kvPos = s.kvPos ∧
      t.kvRem = s.kvRem ∧ t.kvNlen = s.kvNlen ∧ t.kvVlen = s.kvVlen ∧ t.kvName = s.kvName ∧
      t.kvPairs = s.kvPairs ∧ t.events = s.events) ∧
    (s.phase ≠ .hdr →
      t.hdrReg = s.hdrReg ∧ t.verValid = s.verValid ∧ t.ver = s.ver ∧ t.err = s.err) ∧
    (s.phase ≠ .body → t.supplyPort = s.supplyPort ∧ t.bodyBuf = s.bodyBuf) ∧
    (∀ off : Nat, readByte t .kv off = readByte s .kv off) ∧
    (∀ off : Nat, readByte t .body off =
      if s.phase = .body then
        (match s.supplyPort with
          | [] => readByte s .body off
          | b :: _ => b[off]?)
      else readByte s .body off)

/-! ### The reference body decoder -/

/-- What the reference body decoder presents is accepted: in every state of the invariant where it has
a move, the step takes it (R223, R43, R45). -/
def Obligations.ReferenceDecoderMovesAreAccepted : Prop :=
  ∀ (s : State) (m : DecoderMove), BlockInv s → contractMove s = some m →
    ∃ t, step (presentMove s) = .next t

/-- FrameTruncated is answered exactly below each class's minimum length (R252, R224). -/
def Obligations.FrameTruncatedBelowTheMinimum : Prop :=
  ∀ (c : BodyClass) (v : BitVec 15) (b : Bytes),
    decodeBody c v b = .err .frameTruncated ↔
      b.length < (match c with
        | .synStream => 10
        | .synReply | .headers => if v = 2 then 6 else 4
        | .rstStream | .windowUpdate => 8
        | .ping | .goaway => 4
        | .settings => if b.length < 4 then 4 else 4 + 8 * be b 0 4
        | .xForwarded => if b.length < 4 then 4 else 4 + be b 0 4)

/-- Only SYN_STREAM, SYN_REPLY and HEADERS use the KV port, and they hand it the body from their offset
to its end (R223 d, R224). -/
def Obligations.KvPortIsUsedByThreeClasses : Prop :=
  ∀ (c : BodyClass) (v : BitVec 15) (b kv : Bytes),
    decodeBody c v b = .kvStart kv ↔
      kvOffset c v ≤ b.length ∧ kv = b.drop (kvOffset c v) ∧
        ((c = .synStream ∧ kvOffset c v = 10) ∨
          ((c = .synReply ∨ c = .headers) ∧ kvOffset c v = if v = 2 then 6 else 4))

/-- The frames of the fixed-layout classes hold the masked big-endian fields of their layouts, and what
follows the fields is kept for RST_STREAM and ignored for the others (R214, R217, R218, R220, R221). -/
def Obligations.ReferenceDecoderReadsFixedFields : Prop :=
  ∀ (v : BitVec 15) (b : Bytes),
    (8 ≤ b.length →
      (∃ id status, decodeBody .rstStream v b =
          .done (.rstStream id status (if b.length = 8 then none else some (b.drop 8))) ∧
        id.toNat = be b 0 4 % 2 ^ 31 ∧ status.toNat = be b 4 4) ∧
      (∃ id delta, decodeBody .windowUpdate v b = .done (.windowUpdate id delta) ∧
        id.toNat = be b 0 4 % 2 ^ 31 ∧ delta.toNat = be b 4 4 % 2 ^ 31)) ∧
    (4 ≤ b.length →
      (∃ id, decodeBody .ping v b = .done (.ping id) ∧ id.toNat = be b 0 4) ∧
      (∃ id, decodeBody .goaway v b = .done (.goaway id) ∧ id.toNat = be b 0 4 % 2 ^ 31)) ∧
    (4 + be b 0 4 ≤ b.length → 4 ≤ b.length →
      decodeBody .xForwarded v b = .done (.xForwarded (slice b 4 (be b 0 4))))

/-- The frames built from a header block: the fixed fields of the body and the flags' named bits, for
SYN_REPLY and HEADERS from 4 bytes on and for SYN_STREAM from 10, and for SYN_STREAM and SYN_REPLY the
url, which is the value of "path" if there is one, else that of "url", else empty (R212, R213, R219). -/
def Obligations.ReferenceDecoderBuildsKvFrames : Prop :=
  ∀ (flags : BitVec 8) (b : Bytes) (h : Pairs), (h.map Prod.fst).Nodup →
    ∃ (id : BitVec 31) (url : Bytes),
      (∀ p, (([0x70, 0x61, 0x74, 0x68] : Bytes), p) ∈ h → url = p) ∧
      (([0x70, 0x61, 0x74, 0x68] : Bytes) ∉ h.map Prod.fst →
        (∀ u, (([0x75, 0x72, 0x6C] : Bytes), u) ∈ h → url = u) ∧
        (([0x75, 0x72, 0x6C] : Bytes) ∉ h.map Prod.fst → url = [])) ∧
      (4 ≤ b.length →
        id.toNat = be b 0 4 % 2 ^ 31 ∧
        finishKv Config.requireRequestLine .synReply flags b h =
          some (.done (.synReply id (flags.getLsbD 0) h url)) ∧
        finishKv Config.requireRequestLine .headers flags b h = some (.done (.headers id h))) ∧
      (10 ≤ b.length →
        ∃ (assoc : BitVec 31) (prio : BitVec 3),
          assoc.toNat = be b 4 4 % 2 ^ 31 ∧ prio.toNat = be b 8 1 / 32 ∧
          finishKv Config.requireRequestLine .synStream flags b h =
            some (.done (.synStream id assoc prio (flags.getLsbD 0) (flags.getLsbD 1) h url)))

/-- The SETTINGS frame: from 4 + 8*count bytes on it holds the map of the first count entries. In that
map the ids stand in rising order, each once, only ids of the body are in it, and the entry kept for an
id is the last one of that id in the body; an entry's id and flags word is little-endian under version 2
and big-endian otherwise, byte by byte (R215, R65, D38). -/
def Obligations.SettingsKeepTheLastEntryOfAnId : Prop :=
  ∀ (v : BitVec 15) (b : Bytes),
    (4 ≤ b.length → 4 + 8 * be b 0 4 ≤ b.length →
      decodeBody .settings v b = .done (.settings (settingsMap v b (be b 0 4)))) ∧
    (∀ k : Nat, (settingWord v b k).toNat =
      if v = 2 then le b (4 + 8 * k) 4 else be b (4 + 8 * k) 4) ∧
    (∀ k : Nat, 4 + 8 * k + 8 ≤ b.length →
      let byte (i : Nat) : Nat := (b.getD (4 + 8 * k + i) 0).toNat
      (settingWord v b k).toNat =
        if v = 2 then byte 0 + byte 1 * 2 ^ 8 + byte 2 * 2 ^ 16 + byte 3 * 2 ^ 24
        else byte 0 * 2 ^ 24 + byte 1 * 2 ^ 16 + byte 2 * 2 ^ 8 + byte 3) ∧
    ∀ n : Nat,
      ((settingsMap v b n).map (fun p => p.1.toNat)).Pairwise (· < ·) ∧
      ∀ (id : BitVec 24) (x : SettingsEntry), (id, x) ∈ settingsMap v b n ↔
        ∃ k < n,
          (settingWord v b k).extractLsb' 0 24 = id ∧
          (∀ j, k < j → j < n → (settingWord v b j).extractLsb' 0 24 ≠ id) ∧
          x = { value := BitVec.ofNat 32 (be b (4 + 8 * k + 4) 4)
                persist := (settingWord v b k).getLsbD 24
                persisted := (settingWord v b k).getLsbD 25 }

/-- A PING goes from its header to its frame through the reference body decoder: two SUPPLYs of the
block's asking, then BODY_DONE, and Ping with the big-endian id is emitted and the next 8 bytes are
asked for (R131, R136, R137, R217). -/
def Obligations.PingIsDecodedEndToEnd : Prop :=
  ∀ (s : State) (v : BitVec 15) (flags : BitVec 8) (b : Bytes),
    s.phase = .hdr → s.need = 8 → s.kvState = .idle → s.supplyPort = [] →
    versionPasses (.ping v flags 4) s → b.length = 4 →
    s.events = [.supply (encode (.ping v flags 4)), .supply b] →
    ∃ t u, Host.Core.run core 2 s = .next t ∧ step (presentMove t) = .next u ∧
      u.outputs = s.outputs ++
        [.dispatch .ping (Instr.header (.ping v flags 4)) b
            (some (if s.verValid then s.ver else v)),
          .emit (.ping (BitVec.ofNat 32 (be b 0 4)))] ∧
      u.phase = .hdr ∧ u.need = 8
end

