-- ==== Sys2Proof/Laws/Decode.lean ====
section
/-! SUPPORT. The small lemmas of the decoder: what the header words are as numbers, what the field
extractions give on them, and the bounds of big-endian reads. -/

namespace Sys2Proof.Laws

/-! ### Words as numbers -/

theorem toNat_append_eq {m n : Nat} (x : BitVec m) (y : BitVec n) :
    (x ++ y).toNat = x.toNat * 2 ^ n + y.toNat := by
  rw [BitVec.toNat_append, ← Nat.shiftLeft_add_eq_or_of_lt y.isLt, Nat.shiftLeft_eq]

theorem controlWord_toNat (v : BitVec 15) (t : BitVec 16) (f : BitVec 8) (l : BitVec 24) :
    (controlWord v t f l).toNat =
      2 ^ 63 + v.toNat * 2 ^ 48 + t.toNat * 2 ^ 32 + f.toNat * 2 ^ 24 + l.toNat := by
  simp only [controlWord, toNat_append_eq]
  simp; omega

theorem dataWord_toNat (i : BitVec 31) (f : BitVec 8) (l : BitVec 24) :
    (dataWord i f l).toNat = i.toNat * 2 ^ 32 + f.toNat * 2 ^ 24 + l.toNat := by
  simp only [dataWord, toNat_append_eq]
  simp; omega

theorem toNat_extract {n : Nat} (w : BitVec n) (lo len : Nat) :
    (w.extractLsb' lo len).toNat = w.toNat / 2 ^ lo % 2 ^ len := by
  simp [BitVec.extractLsb'_toNat, Nat.shiftRight_eq_div_pow]

theorem controlField_iff (w : BitVec 64) : controlField w = true ↔ 2 ^ 63 ≤ w.toNat := by
  have h := w.isLt
  simp only [controlField, BitVec.getLsbD, Nat.testBit_eq_decide_div_mod_eq, decide_eq_true_eq]
  omega

/-! ### Fields of a control word and of a data word -/

@[simp] theorem controlField_controlWord (v : BitVec 15) (t : BitVec 16) (f : BitVec 8)
    (l : BitVec 24) : controlField (controlWord v t f l) = true := by
  rw [controlField_iff, controlWord_toNat]; omega

@[simp] theorem controlField_dataWord (i : BitVec 31) (f : BitVec 8) (l : BitVec 24) :
    controlField (dataWord i f l) = false := by
  have h := (controlField_iff (dataWord i f l)).not
  rw [dataWord_toNat] at h
  have := i.isLt; have := f.isLt; have := l.isLt
  rw [← Bool.not_eq_true]; rw [h]; omega

@[simp] theorem versionField_controlWord (v : BitVec 15) (t : BitVec 16) (f : BitVec 8)
    (l : BitVec 24) : versionField (controlWord v t f l) = v := by
  apply BitVec.eq_of_toNat_eq
  rw [versionField, toNat_extract, controlWord_toNat]
  have := v.isLt; have := t.isLt; have := f.isLt; have := l.isLt; omega

@[simp] theorem typeField_controlWord (v : BitVec 15) (t : BitVec 16) (f : BitVec 8)
    (l : BitVec 24) : typeField (controlWord v t f l) = t := by
  apply BitVec.eq_of_toNat_eq
  rw [typeField, toNat_extract, controlWord_toNat]
  have := v.isLt; have := t.isLt; have := f.isLt; have := l.isLt; omega

@[simp] theorem flagsField_controlWord (v : BitVec 15) (t : BitVec 16) (f : BitVec 8)
    (l : BitVec 24) : flagsField (controlWord v t f l) = f := by
  apply BitVec.eq_of_toNat_eq
  rw [flagsField, toNat_extract, controlWord_toNat]
  have := v.isLt; have := t.isLt; have := f.isLt; have := l.isLt; omega

@[simp] theorem lengthField_controlWord (v : BitVec 15) (t : BitVec 16) (f : BitVec 8)
    (l : BitVec 24) : lengthField (controlWord v t f l) = l := by
  apply BitVec.eq_of_toNat_eq
  rw [lengthField, toNat_extract, controlWord_toNat]
  have := v.isLt; have := t.isLt; have := f.isLt; have := l.isLt; omega

@[simp] theorem idField_dataWord (i : BitVec 31) (f : BitVec 8) (l : BitVec 24) :
    idField (dataWord i f l) = i := by
  apply BitVec.eq_of_toNat_eq
  rw [idField, toNat_extract, dataWord_toNat]
  have := i.isLt; have := f.isLt; have := l.isLt; omega

@[simp] theorem flagsField_dataWord (i : BitVec 31) (f : BitVec 8) (l : BitVec 24) :
    flagsField (dataWord i f l) = f := by
  apply BitVec.eq_of_toNat_eq
  rw [flagsField, toNat_extract, dataWord_toNat]
  have := i.isLt; have := f.isLt; have := l.isLt; omega

@[simp] theorem lengthField_dataWord (i : BitVec 31) (f : BitVec 8) (l : BitVec 24) :
    lengthField (dataWord i f l) = l := by
  apply BitVec.eq_of_toNat_eq
  rw [lengthField, toNat_extract, dataWord_toNat]
  have := i.isLt; have := f.isLt; have := l.isLt; omega

/-- A control word is its own fields put back (R119). -/
theorem controlWord_of_fields (w : BitVec 64) (h : controlField w = true) :
    controlWord (versionField w) (typeField w) (flagsField w) (lengthField w) = w := by
  rw [controlField_iff] at h
  apply BitVec.eq_of_toNat_eq
  rw [controlWord_toNat]
  simp only [versionField, typeField, flagsField, lengthField, toNat_extract]
  have := w.isLt; omega

/-- A data word is its own fields put back (R119). -/
theorem dataWord_of_fields (w : BitVec 64) (h : controlField w = false) :
    dataWord (idField w) (flagsField w) (lengthField w) = w := by
  rw [← Bool.not_eq_true, controlField_iff] at h
  apply BitVec.eq_of_toNat_eq
  rw [dataWord_toNat]
  simp only [idField, flagsField, lengthField, toNat_extract]
  have := w.isLt; omega

/-! ### HDR_DECODE on the two formats -/

@[simp] theorem hdrDecode_controlWord (v : BitVec 15) (t : BitVec 16) (f : BitVec 8)
    (l : BitVec 24) :
    hdrDecode (controlWord v t f l) =
      { control := true, version := some (v.setWidth 16), type := some t, id := none,
        flags := f, length := l } := by
  simp [hdrDecode]

@[simp] theorem hdrDecode_dataWord (i : BitVec 31) (f : BitVec 8) (l : BitVec 24) :
    hdrDecode (dataWord i f l) =
      { control := false, version := none, type := none, id := some (i.setWidth 32),
        flags := f, length := l } := by
  simp [hdrDecode]

theorem hdrDecode_length (w : BitVec 64) : (hdrDecode w).length = lengthField w := by
  unfold hdrDecode; split <;> rfl

theorem hdrDecode_control (w : BitVec 64) : (hdrDecode w).control = controlField w := by
  unfold hdrDecode; split <;> simp [*]

/-- The body length the controller asks for is the header's length field. -/
theorem lengthField_encodeWord (i : Instr) : lengthField (encodeWord i) = i.bodyLength := by
  cases i <;> simp [encodeWord, Instr.bodyLength]

/-- The version the controller checks is the header's version field, for a control header. -/
theorem version?_eq (i : Instr) :
    i.version? = if controlField (encodeWord i) then some (versionField (encodeWord i)) else none := by
  cases i <;> simp [encodeWord, Instr.version?]

/-! ### Big-endian reads -/

theorem beAll_append (a : Bytes) (x : Byte) : beAll (a ++ [x]) = beAll a * 256 + x.toNat := by
  simp [beAll, List.foldl_append]

theorem beAll_lt (b : Bytes) : beAll b < 256 ^ b.length := by
  induction b using List.reverseRecOn with
  | nil => simp [beAll]
  | append_singleton a x ih =>
    rw [beAll_append, List.length_append, List.length_singleton, Nat.pow_succ]
    have := x.isLt; omega

theorem slice_length_le (b : Bytes) (off n : Nat) : (slice b off n).length ≤ n := by
  simp [slice]

/-- A read of n bytes is below 256^n (R8: its width is 8n bits). -/
theorem be_lt (b : Bytes) (off n : Nat) : be b off n < 256 ^ n :=
  lt_of_lt_of_le (beAll_lt _) (Nat.pow_le_pow_right (by omega) (slice_length_le b off n))

/-- A read within a prefix of a string does not see what follows it. -/
theorem slice_append (d junk : Bytes) (off n : Nat) (h : off + n ≤ d.length) :
    slice (d ++ junk) off n = slice d off n := by
  rw [slice, slice, List.drop_append_of_le_length (by omega), List.take_append_of_le_length]
  simp; omega

theorem be_append (d junk : Bytes) (off n : Nat) (h : off + n ≤ d.length) :
    be (d ++ junk) off n = be d off n := by
  rw [be, be, slice_append d junk off n h]

@[simp] theorem bytesOfWord_length (w : BitVec 64) : (bytesOfWord w).length = 8 := rfl

/-- Storing a word big-endian and reading it back gives the word (R81). -/
theorem wordOfBytes_bytesOfWord (w : BitVec 64) : wordOfBytes (bytesOfWord w) = w := by
  apply BitVec.eq_of_toNat_eq
  simp only [wordOfBytes, bytesOfWord, be, slice, beAll, List.drop_zero, List.take_succ_cons,
    List.take_zero, List.foldl_cons, List.foldl_nil, toNat_extract, BitVec.toNat_ofNat]
  have := w.isLt; omega

/-- Eight bytes are the bytes of their word (R81). -/
theorem bytesOfWord_wordOfBytes (b : Bytes) (h : b.length = 8) : bytesOfWord (wordOfBytes b) = b := by
  match b, h with
  | [b0, b1, b2, b3, b4, b5, b6, b7], _ =>
    have := b0.isLt; have := b1.isLt; have := b2.isLt; have := b3.isLt
    have := b4.isLt; have := b5.isLt; have := b6.isLt; have := b7.isLt
    simp only [bytesOfWord, wordOfBytes, be, slice, beAll, List.drop_zero, List.take_succ_cons,
      List.take_zero, List.foldl_cons, List.foldl_nil, List.cons.injEq, and_true]
    refine ⟨?_, ?_, ?_, ?_, ?_, ?_, ?_, ?_⟩ <;> apply BitVec.eq_of_toNat_eq <;>
      rw [toNat_extract, BitVec.toNat_ofNat] <;> omega

end Sys2Proof.Laws
end

