-- ==== Sys2Proof/Laws/State.lean ====
section
/-! SUPPORT. What each named update of State does to each field. -/

namespace Sys2Proof.Machine

/-! ### signal -/

section
variable (o : Output) (s : State)
@[simp] theorem signal_phase : (signal o s).phase = s.phase := rfl
@[simp] theorem signal_need : (signal o s).need = s.need := rfl
@[simp] theorem signal_verValid : (signal o s).verValid = s.verValid := rfl
@[simp] theorem signal_ver : (signal o s).ver = s.ver := rfl
@[simp] theorem signal_hdrReg : (signal o s).hdrReg = s.hdrReg := rfl
@[simp] theorem signal_bodyBuf : (signal o s).bodyBuf = s.bodyBuf := rfl
@[simp] theorem signal_err : (signal o s).err = s.err := rfl
@[simp] theorem signal_kvState : (signal o s).kvState = s.kvState := rfl
@[simp] theorem signal_kvW : (signal o s).kvW = s.kvW := rfl
@[simp] theorem signal_kvBuf : (signal o s).kvBuf = s.kvBuf := rfl
@[simp] theorem signal_kvPos : (signal o s).kvPos = s.kvPos := rfl
@[simp] theorem signal_kvRem : (signal o s).kvRem = s.kvRem := rfl
@[simp] theorem signal_kvNlen : (signal o s).kvNlen = s.kvNlen := rfl
@[simp] theorem signal_kvVlen : (signal o s).kvVlen = s.kvVlen := rfl
@[simp] theorem signal_kvName : (signal o s).kvName = s.kvName := rfl
@[simp] theorem signal_kvPairs : (signal o s).kvPairs = s.kvPairs := rfl
@[simp] theorem signal_supplyPort : (signal o s).supplyPort = s.supplyPort := rfl
@[simp] theorem signal_events : (signal o s).events = s.events := rfl
@[simp] theorem signal_outputs : (signal o s).outputs = s.outputs ++ [o] := rfl
end

/-! ### awaitHeader -/

section
variable (s : State)
@[simp] theorem awaitHeader_phase : (awaitHeader s).phase = .hdr := rfl
@[simp] theorem awaitHeader_need : (awaitHeader s).need = 8 := rfl
@[simp] theorem awaitHeader_verValid : (awaitHeader s).verValid = s.verValid := rfl
@[simp] theorem awaitHeader_ver : (awaitHeader s).ver = s.ver := rfl
@[simp] theorem awaitHeader_hdrReg : (awaitHeader s).hdrReg = s.hdrReg := rfl
@[simp] theorem awaitHeader_bodyBuf : (awaitHeader s).bodyBuf = s.bodyBuf := rfl
@[simp] theorem awaitHeader_err : (awaitHeader s).err = s.err := rfl
@[simp] theorem awaitHeader_kvState : (awaitHeader s).kvState = s.kvState := rfl
@[simp] theorem awaitHeader_kvW : (awaitHeader s).kvW = s.kvW := rfl
@[simp] theorem awaitHeader_kvBuf : (awaitHeader s).kvBuf = s.kvBuf := rfl
@[simp] theorem awaitHeader_kvPos : (awaitHeader s).kvPos = s.kvPos := rfl
@[simp] theorem awaitHeader_kvRem : (awaitHeader s).kvRem = s.kvRem := rfl
@[simp] theorem awaitHeader_kvNlen : (awaitHeader s).kvNlen = s.kvNlen := rfl
@[simp] theorem awaitHeader_kvVlen : (awaitHeader s).kvVlen = s.kvVlen := rfl
@[simp] theorem awaitHeader_kvName : (awaitHeader s).kvName = s.kvName := rfl
@[simp] theorem awaitHeader_kvPairs : (awaitHeader s).kvPairs = s.kvPairs := rfl
@[simp] theorem awaitHeader_supplyPort : (awaitHeader s).supplyPort = s.supplyPort := rfl
@[simp] theorem awaitHeader_events : (awaitHeader s).events = s.events := rfl
@[simp] theorem awaitHeader_outputs : (awaitHeader s).outputs = s.outputs := rfl
end

/-! ### completeFrame -/

section
variable (f : Frame) (s : State)
@[simp] theorem completeFrame_phase : (completeFrame f s).phase = .hdr := rfl
@[simp] theorem completeFrame_need : (completeFrame f s).need = 8 := rfl
@[simp] theorem completeFrame_verValid : (completeFrame f s).verValid = s.verValid := rfl
@[simp] theorem completeFrame_ver : (completeFrame f s).ver = s.ver := rfl
@[simp] theorem completeFrame_hdrReg : (completeFrame f s).hdrReg = s.hdrReg := rfl
@[simp] theorem completeFrame_bodyBuf : (completeFrame f s).bodyBuf = s.bodyBuf := rfl
@[simp] theorem completeFrame_err : (completeFrame f s).err = s.err := rfl
@[simp] theorem completeFrame_kvState : (completeFrame f s).kvState = s.kvState := rfl
@[simp] theorem completeFrame_kvW : (completeFrame f s).kvW = s.kvW := rfl
@[simp] theorem completeFrame_kvBuf : (completeFrame f s).kvBuf = s.kvBuf := rfl
@[simp] theorem completeFrame_kvPos : (completeFrame f s).kvPos = s.kvPos := rfl
@[simp] theorem completeFrame_kvRem : (completeFrame f s).kvRem = s.kvRem := rfl
@[simp] theorem completeFrame_kvNlen : (completeFrame f s).kvNlen = s.kvNlen := rfl
@[simp] theorem completeFrame_kvVlen : (completeFrame f s).kvVlen = s.kvVlen := rfl
@[simp] theorem completeFrame_kvName : (completeFrame f s).kvName = s.kvName := rfl
@[simp] theorem completeFrame_kvPairs : (completeFrame f s).kvPairs = s.kvPairs := rfl
@[simp] theorem completeFrame_supplyPort : (completeFrame f s).supplyPort = s.supplyPort := rfl
@[simp] theorem completeFrame_events : (completeFrame f s).events = s.events := rfl
@[simp] theorem completeFrame_outputs : (completeFrame f s).outputs = s.outputs ++ [.emit f] := rfl
end

/-! ### raise -/

section
variable (e : Err) (s : State)
@[simp] theorem raise_phase : (raise e s).phase = errPhase e := rfl
@[simp] theorem raise_need : (raise e s).need = 0 := rfl
@[simp] theorem raise_verValid : (raise e s).verValid = s.verValid := rfl
@[simp] theorem raise_ver : (raise e s).ver = s.ver := rfl
@[simp] theorem raise_hdrReg : (raise e s).hdrReg = s.hdrReg := rfl
@[simp] theorem raise_bodyBuf : (raise e s).bodyBuf = s.bodyBuf := rfl
@[simp] theorem raise_err : (raise e s).err = errCode e := rfl
@[simp] theorem raise_kvState : (raise e s).kvState = s.kvState := rfl
@[simp] theorem raise_kvW : (raise e s).kvW = s.kvW := rfl
@[simp] theorem raise_kvBuf : (raise e s).kvBuf = s.kvBuf := rfl
@[simp] theorem raise_kvPos : (raise e s).kvPos = s.kvPos := rfl
@[simp] theorem raise_kvRem : (raise e s).kvRem = s.kvRem := rfl
@[simp] theorem raise_kvNlen : (raise e s).kvNlen = s.kvNlen := rfl
@[simp] theorem raise_kvVlen : (raise e s).kvVlen = s.kvVlen := rfl
@[simp] theorem raise_kvName : (raise e s).kvName = s.kvName := rfl
@[simp] theorem raise_kvPairs : (raise e s).kvPairs = s.kvPairs := rfl
@[simp] theorem raise_supplyPort : (raise e s).supplyPort = s.supplyPort := rfl
@[simp] theorem raise_events : (raise e s).events = s.events := rfl
@[simp] theorem raise_outputs : (raise e s).outputs = s.outputs ++ [.fail e] := rfl
end

/-! ### resetOp -/

section
variable (s : State)
@[simp] theorem resetOp_phase : (resetOp s).phase = State.reset.phase := rfl
@[simp] theorem resetOp_need : (resetOp s).need = State.reset.need := rfl
@[simp] theorem resetOp_verValid : (resetOp s).verValid = State.reset.verValid := rfl
@[simp] theorem resetOp_ver : (resetOp s).ver = State.reset.ver := rfl
@[simp] theorem resetOp_hdrReg : (resetOp s).hdrReg = State.reset.hdrReg := rfl
@[simp] theorem resetOp_bodyBuf : (resetOp s).bodyBuf = State.reset.bodyBuf := rfl
@[simp] theorem resetOp_err : (resetOp s).err = State.reset.err := rfl
@[simp] theorem resetOp_kvState : (resetOp s).kvState = State.reset.kvState := rfl
@[simp] theorem resetOp_kvW : (resetOp s).kvW = State.reset.kvW := rfl
@[simp] theorem resetOp_kvBuf : (resetOp s).kvBuf = State.reset.kvBuf := rfl
@[simp] theorem resetOp_kvPos : (resetOp s).kvPos = State.reset.kvPos := rfl
@[simp] theorem resetOp_kvRem : (resetOp s).kvRem = State.reset.kvRem := rfl
@[simp] theorem resetOp_kvNlen : (resetOp s).kvNlen = State.reset.kvNlen := rfl
@[simp] theorem resetOp_kvVlen : (resetOp s).kvVlen = State.reset.kvVlen := rfl
@[simp] theorem resetOp_kvName : (resetOp s).kvName = State.reset.kvName := rfl
@[simp] theorem resetOp_kvPairs : (resetOp s).kvPairs = State.reset.kvPairs := rfl
@[simp] theorem resetOp_supplyPort : (resetOp s).supplyPort = s.supplyPort := rfl
@[simp] theorem resetOp_events : (resetOp s).events = s.events := rfl
@[simp] theorem resetOp_outputs : (resetOp s).outputs = s.outputs := rfl
end

/-! ### acceptHeader -/

section
variable (i : Instr) (s : State)
@[simp] theorem acceptHeader_phase : (acceptHeader i s).phase = .body := rfl
@[simp] theorem acceptHeader_need : (acceptHeader i s).need = i.bodyLength := rfl
@[simp] theorem acceptHeader_verValid : (acceptHeader i s).verValid = s.verValid := rfl
@[simp] theorem acceptHeader_ver : (acceptHeader i s).ver = s.ver := rfl
@[simp] theorem acceptHeader_hdrReg : (acceptHeader i s).hdrReg = encodeWord i := rfl
@[simp] theorem acceptHeader_bodyBuf : (acceptHeader i s).bodyBuf = s.bodyBuf := rfl
@[simp] theorem acceptHeader_err : (acceptHeader i s).err = s.err := rfl
@[simp] theorem acceptHeader_kvState : (acceptHeader i s).kvState = s.kvState := rfl
@[simp] theorem acceptHeader_kvW : (acceptHeader i s).kvW = s.kvW := rfl
@[simp] theorem acceptHeader_kvBuf : (acceptHeader i s).kvBuf = s.kvBuf := rfl
@[simp] theorem acceptHeader_kvPos : (acceptHeader i s).kvPos = s.kvPos := rfl
@[simp] theorem acceptHeader_kvRem : (acceptHeader i s).kvRem = s.kvRem := rfl
@[simp] theorem acceptHeader_kvNlen : (acceptHeader i s).kvNlen = s.kvNlen := rfl
@[simp] theorem acceptHeader_kvVlen : (acceptHeader i s).kvVlen = s.kvVlen := rfl
@[simp] theorem acceptHeader_kvName : (acceptHeader i s).kvName = s.kvName := rfl
@[simp] theorem acceptHeader_kvPairs : (acceptHeader i s).kvPairs = s.kvPairs := rfl
@[simp] theorem acceptHeader_supplyPort : (acceptHeader i s).supplyPort = s.supplyPort := rfl
@[simp] theorem acceptHeader_events : (acceptHeader i s).events = s.events := rfl
@[simp] theorem acceptHeader_outputs : (acceptHeader i s).outputs = s.outputs := rfl
end

/-! ### dispatchBody -/

section
variable (c : BodyClass) (h : FrameHeader) (b : Bytes) (s : State)
@[simp] theorem dispatchBody_phase : (dispatchBody c h b s).phase = .busy := rfl
@[simp] theorem dispatchBody_need : (dispatchBody c h b s).need = 0 := rfl
@[simp] theorem dispatchBody_verValid : (dispatchBody c h b s).verValid = s.verValid := rfl
@[simp] theorem dispatchBody_ver : (dispatchBody c h b s).ver = s.ver := rfl
@[simp] theorem dispatchBody_hdrReg : (dispatchBody c h b s).hdrReg = s.hdrReg := rfl
@[simp] theorem dispatchBody_bodyBuf : (dispatchBody c h b s).bodyBuf = b := rfl
@[simp] theorem dispatchBody_err : (dispatchBody c h b s).err = s.err := rfl
@[simp] theorem dispatchBody_kvState : (dispatchBody c h b s).kvState = s.kvState := rfl
@[simp] theorem dispatchBody_kvW : (dispatchBody c h b s).kvW = s.kvW := rfl
@[simp] theorem dispatchBody_kvBuf : (dispatchBody c h b s).kvBuf = s.kvBuf := rfl
@[simp] theorem dispatchBody_kvPos : (dispatchBody c h b s).kvPos = s.kvPos := rfl
@[simp] theorem dispatchBody_kvRem : (dispatchBody c h b s).kvRem = s.kvRem := rfl
@[simp] theorem dispatchBody_kvNlen : (dispatchBody c h b s).kvNlen = s.kvNlen := rfl
@[simp] theorem dispatchBody_kvVlen : (dispatchBody c h b s).kvVlen = s.kvVlen := rfl
@[simp] theorem dispatchBody_kvName : (dispatchBody c h b s).kvName = s.kvName := rfl
@[simp] theorem dispatchBody_kvPairs : (dispatchBody c h b s).kvPairs = s.kvPairs := rfl
@[simp] theorem dispatchBody_supplyPort : (dispatchBody c h b s).supplyPort = s.supplyPort := rfl
@[simp] theorem dispatchBody_events : (dispatchBody c h b s).events = s.events := rfl
@[simp] theorem dispatchBody_outputs : (dispatchBody c h b s).outputs = s.outputs ++ [.dispatch c h b (pinnedVersion s)] := rfl
end

/-! ### kvComplete -/

section
variable (s : State)
@[simp] theorem kvComplete_phase : (kvComplete s).phase = s.phase := rfl
@[simp] theorem kvComplete_need : (kvComplete s).need = s.need := rfl
@[simp] theorem kvComplete_verValid : (kvComplete s).verValid = s.verValid := rfl
@[simp] theorem kvComplete_ver : (kvComplete s).ver = s.ver := rfl
@[simp] theorem kvComplete_hdrReg : (kvComplete s).hdrReg = s.hdrReg := rfl
@[simp] theorem kvComplete_bodyBuf : (kvComplete s).bodyBuf = s.bodyBuf := rfl
@[simp] theorem kvComplete_err : (kvComplete s).err = s.err := rfl
@[simp] theorem kvComplete_kvState : (kvComplete s).kvState = .idle := rfl
@[simp] theorem kvComplete_kvW : (kvComplete s).kvW = s.kvW := rfl
@[simp] theorem kvComplete_kvBuf : (kvComplete s).kvBuf = s.kvBuf := rfl
@[simp] theorem kvComplete_kvPos : (kvComplete s).kvPos = s.kvPos := rfl
@[simp] theorem kvComplete_kvRem : (kvComplete s).kvRem = s.kvRem := rfl
@[simp] theorem kvComplete_kvNlen : (kvComplete s).kvNlen = s.kvNlen := rfl
@[simp] theorem kvComplete_kvVlen : (kvComplete s).kvVlen = s.kvVlen := rfl
@[simp] theorem kvComplete_kvName : (kvComplete s).kvName = s.kvName := rfl
@[simp] theorem kvComplete_kvPairs : (kvComplete s).kvPairs = s.kvPairs := rfl
@[simp] theorem kvComplete_supplyPort : (kvComplete s).supplyPort = s.supplyPort := rfl
@[simp] theorem kvComplete_events : (kvComplete s).events = s.events := rfl
@[simp] theorem kvComplete_outputs : (kvComplete s).outputs = s.outputs ++ [.kvDone s.kvPairs] := rfl
end

/-! ### kvFailTruncated -/

section
variable (s : State)
@[simp] theorem kvFailTruncated_phase : (kvFailTruncated s).phase = s.phase := rfl
@[simp] theorem kvFailTruncated_need : (kvFailTruncated s).need = s.need := rfl
@[simp] theorem kvFailTruncated_verValid : (kvFailTruncated s).verValid = s.verValid := rfl
@[simp] theorem kvFailTruncated_ver : (kvFailTruncated s).ver = s.ver := rfl
@[simp] theorem kvFailTruncated_hdrReg : (kvFailTruncated s).hdrReg = s.hdrReg := rfl
@[simp] theorem kvFailTruncated_bodyBuf : (kvFailTruncated s).bodyBuf = s.bodyBuf := rfl
@[simp] theorem kvFailTruncated_err : (kvFailTruncated s).err = s.err := rfl
@[simp] theorem kvFailTruncated_kvState : (kvFailTruncated s).kvState = .idle := rfl
@[simp] theorem kvFailTruncated_kvW : (kvFailTruncated s).kvW = s.kvW := rfl
@[simp] theorem kvFailTruncated_kvBuf : (kvFailTruncated s).kvBuf = s.kvBuf := rfl
@[simp] theorem kvFailTruncated_kvPos : (kvFailTruncated s).kvPos = s.kvPos := rfl
@[simp] theorem kvFailTruncated_kvRem : (kvFailTruncated s).kvRem = s.kvRem := rfl
@[simp] theorem kvFailTruncated_kvNlen : (kvFailTruncated s).kvNlen = s.kvNlen := rfl
@[simp] theorem kvFailTruncated_kvVlen : (kvFailTruncated s).kvVlen = s.kvVlen := rfl
@[simp] theorem kvFailTruncated_kvName : (kvFailTruncated s).kvName = s.kvName := rfl
@[simp] theorem kvFailTruncated_kvPairs : (kvFailTruncated s).kvPairs = [] := rfl
@[simp] theorem kvFailTruncated_supplyPort : (kvFailTruncated s).supplyPort = s.supplyPort := rfl
@[simp] theorem kvFailTruncated_events : (kvFailTruncated s).events = s.events := rfl
@[simp] theorem kvFailTruncated_outputs : (kvFailTruncated s).outputs = s.outputs ++ [.kvErr .headerBlockTruncated] := rfl
end

/-! ### pinVersion -/

section
variable (v : BitVec 15) (s : State)
@[simp] theorem pinVersion_phase : (pinVersion v s).phase = s.phase := by unfold pinVersion; split <;> rfl
@[simp] theorem pinVersion_need : (pinVersion v s).need = s.need := by unfold pinVersion; split <;> rfl
@[simp] theorem pinVersion_verValid : (pinVersion v s).verValid = true := by unfold pinVersion; split <;> simp_all
@[simp] theorem pinVersion_ver : (pinVersion v s).ver = if s.verValid then s.ver else v := by unfold pinVersion; split <;> rfl
@[simp] theorem pinVersion_hdrReg : (pinVersion v s).hdrReg = s.hdrReg := by unfold pinVersion; split <;> rfl
@[simp] theorem pinVersion_bodyBuf : (pinVersion v s).bodyBuf = s.bodyBuf := by unfold pinVersion; split <;> rfl
@[simp] theorem pinVersion_err : (pinVersion v s).err = s.err := by unfold pinVersion; split <;> rfl
@[simp] theorem pinVersion_kvState : (pinVersion v s).kvState = s.kvState := by unfold pinVersion; split <;> rfl
@[simp] theorem pinVersion_kvW : (pinVersion v s).kvW = s.kvW := by unfold pinVersion; split <;> rfl
@[simp] theorem pinVersion_kvBuf : (pinVersion v s).kvBuf = s.kvBuf := by unfold pinVersion; split <;> rfl
@[simp] theorem pinVersion_kvPos : (pinVersion v s).kvPos = s.kvPos := by unfold pinVersion; split <;> rfl
@[simp] theorem pinVersion_kvRem : (pinVersion v s).kvRem = s.kvRem := by unfold pinVersion; split <;> rfl
@[simp] theorem pinVersion_kvNlen : (pinVersion v s).kvNlen = s.kvNlen := by unfold pinVersion; split <;> rfl
@[simp] theorem pinVersion_kvVlen : (pinVersion v s).kvVlen = s.kvVlen := by unfold pinVersion; split <;> rfl
@[simp] theorem pinVersion_kvName : (pinVersion v s).kvName = s.kvName := by unfold pinVersion; split <;> rfl
@[simp] theorem pinVersion_kvPairs : (pinVersion v s).kvPairs = s.kvPairs := by unfold pinVersion; split <;> rfl
@[simp] theorem pinVersion_supplyPort : (pinVersion v s).supplyPort = s.supplyPort := by unfold pinVersion; split <;> rfl
@[simp] theorem pinVersion_events : (pinVersion v s).events = s.events := by unfold pinVersion; split <;> rfl
@[simp] theorem pinVersion_outputs : (pinVersion v s).outputs = s.outputs := by unfold pinVersion; split <;> rfl
end

end Sys2Proof.Machine
end

