-- ==== Sys2Proof/Laws/Ops.lean ====
section
/-! SUPPORT. For each shared operation of Machine/Ops.lean and Machine/Operands.lean, one lemma that
says everything it can do. -/

namespace Sys2Proof.Laws

open Sys2Proof.Machine

/-! ### Guarded reads -/

theorem memRead_eq_some {b : Bytes} {off n v : Nat} :
    memRead b off n = some v ↔ off + n ≤ b.length ∧ v = be b off n := by
  unfold memRead; split <;> simp_all [eq_comm]

theorem memRead_eq_none {b : Bytes} {off n : Nat} :
    memRead b off n = none ↔ b.length < off + n := by
  unfold memRead; split <;> simp_all

theorem memSlice_eq_some {b x : Bytes} {off n : Nat} :
    memSlice b off n = some x ↔ off + n ≤ b.length ∧ x = slice b off n := by
  unfold memSlice; split <;> simp_all [eq_comm]

theorem memSlice_eq_none {b : Bytes} {off n : Nat} :
    memSlice b off n = none ↔ b.length < off + n := by
  unfold memSlice; split <;> simp_all

/-! ### Header phase -/

theorem versionCheckOk_true_iff (v : BitVec 15) (s : State) :
    versionCheckOk true v s = true ↔
      (s.verValid = false → v = 2 ∨ v = 3) ∧ (s.verValid = true → v = s.ver) := by
  unfold versionCheckOk; split <;> simp_all

/-- SUPPLY_HEADER keeps the header, pinning a control header's version, or enters FATAL (R131). -/
theorem supplyHeader_cases (r : Bool) (i : Instr) (s : State) :
    (i.version? = none ∧ supplyHeader r i s = acceptHeader i s) ∨
    (∃ v, i.version? = some v ∧ versionCheckOk r v s = true ∧
      supplyHeader r i s = acceptHeader i (pinVersion v s)) ∨
    (∃ v, i.version? = some v ∧ versionCheckOk r v s = false ∧
      supplyHeader r i s = raise (.unsupportedVersion v) s) := by
  unfold supplyHeader
  split
  · exact .inl ⟨‹_›, rfl⟩
  · split
    · exact .inr (.inl ⟨_, ‹_›, ‹_›, rfl⟩)
    · exact .inr (.inr ⟨_, ‹_›, Bool.eq_false_iff.2 ‹¬_›, rfl⟩)

/-! ### Body phase -/

/-- Taking a body: nothing presented, or the chunk of NEED bytes used, or a refusal (R142, R266). -/
theorem takeBody_next {body : Bytes → State → State} {s t : State}
    (h : takeBody body s = .next t) :
    (s.supplyPort = [] ∧ t = s) ∨
    (∃ b port, s.supplyPort = b :: port ∧ b.length = s.need.toNat ∧
      t = body b { s with supplyPort := port }) := by
  unfold takeBody at h
  split at h
  · exact .inl ⟨‹_›, by simpa using h.symm⟩
  · split at h
    · exact .inr ⟨_, _, ‹_›, ‹_›, by simpa using h.symm⟩
    · cases h

theorem takeBody_cons (body : Bytes → State → State) (s : State) (b : Bytes) (port : List Bytes)
    (h : s.supplyPort = b :: port) (hl : b.length = s.need.toNat) :
    takeBody body s = .next (body b { s with supplyPort := port }) := by
  unfold takeBody; simp [h, hl]

/-- What each class does with a body in phase BODY (R133 to R136). -/
def bodyEffect : Instr → Bytes → State → State
  | .data id f _ => bodyData id f
  | .synStream v f l => dispatchBody .synStream (Instr.header (.synStream v f l))
  | .synReply v f l => dispatchBody .synReply (Instr.header (.synReply v f l))
  | .rstStream v f l => dispatchBody .rstStream (Instr.header (.rstStream v f l))
  | .settings v f l => dispatchBody .settings (Instr.header (.settings v f l))
  | .noop _ _ _ => bodyNoop
  | .ping v f l => dispatchBody .ping (Instr.header (.ping v f l))
  | .goaway v f l => dispatchBody .goaway (Instr.header (.goaway v f l))
  | .headers v f l => dispatchBody .headers (Instr.header (.headers v f l))
  | .windowUpdate v f l => dispatchBody .windowUpdate (Instr.header (.windowUpdate v f l))
  | .xForwarded v f l => dispatchBody .xForwarded (Instr.header (.xForwarded v f l))
  | .unknown _ t _ _ => bodyUnknown t

/-- Every instruction is its header phase and its own body effect. -/
theorem exec_eq_runHeader (i : Instr) (s : State) : exec i s = runHeader i (bodyEffect i) s := by
  cases i <;> rfl

theorem exec_of_hdr (i : Instr) (s : State) (h : s.phase = .hdr) :
    exec i s = .next (supplyHeader true i s) := by
  rw [exec_eq_runHeader, runHeader, h]; rfl

theorem exec_of_body (i : Instr) (s : State) (h : s.phase = .body) :
    exec i s = takeBody (bodyEffect i) s := by
  rw [exec_eq_runHeader, runHeader, h]

theorem exec_of_not_ready (i : Instr) (s : State)
    (h : s.phase = .busy ∨ s.phase = .error ∨ s.phase = .fatal) : exec i s = .next s := by
  rw [exec_eq_runHeader, runHeader]
  rcases h with h | h | h <;> rw [h]

/-- The body effect of a class either emits one frame and awaits a header, or dispatches. -/
theorem bodyEffect_cases (i : Instr) (b : Bytes) (s : State) :
    (∃ f, bodyEffect i b s = completeFrame f s) ∨
    (∃ c, bodyEffect i b s = dispatchBody c i.header b s ∧
      classOf (encodeWord i) = .control (.decoder c)) := by
  cases i
  case data id f l => exact .inl ⟨_, rfl⟩
  case noop => exact .inl ⟨_, rfl⟩
  case unknown => exact .inl ⟨_, rfl⟩
  all_goals exact .inr ⟨_, rfl, by simp [classOf, encodeWord, sel]⟩

end Sys2Proof.Laws
end

