-- ==== Sys2Proof/Laws/Kv.lean ====
section
/-! SUPPORT. The KV unit's reads, each said once: a guarded read never faults, and what a read step
does when the bytes are there and when they are not. -/

namespace Sys2Proof.Laws

open Sys2Proof.Machine

/-- A prefix read truncates the block or loads be(KV_BUF, KV_POS, KV_W) (R174, R175, R177). -/
theorem readPrefix_eq (k : BitVec 32 → State → State) (s : State) :
    readPrefix k s =
      if s.kvBuf.length < s.kvPos + widthBytes s.kvW then .next (kvFailTruncated s)
      else .next (k (BitVec.ofNat 32 (be s.kvBuf s.kvPos (widthBytes s.kvW)))
        { s with kvPos := s.kvPos + widthBytes s.kvW }) := by
  unfold readPrefix withAvailable
  split
  · rfl
  · simp only [memRead, if_pos (Nat.le_of_not_lt ‹¬_›)]

/-- A string read truncates the block or takes the n bytes at KV_POS (R176, R178). -/
theorem readString_eq (n : Nat) (k : Bytes → State → State) (s : State) :
    readString n k s =
      if s.kvBuf.length < s.kvPos + n then .next (kvFailTruncated s)
      else .next (k (slice s.kvBuf s.kvPos n) { s with kvPos := s.kvPos + n }) := by
  unfold readString withAvailable
  split
  · rfl
  · simp only [memSlice, if_pos (Nat.le_of_not_lt ‹¬_›)]

/-- Everything an internal step of the KV unit can do (R174 to R178, R182). -/
theorem kvStep_cases {s t : State} (h : kvStep s = .next t) :
    (kvReading s.kvState = false ∧ t = s) ∨
    (kvReading s.kvState = true ∧ t = kvFailTruncated s) ∨
    (s.kvState = .count ∧ s.kvPos + widthBytes s.kvW ≤ s.kvBuf.length ∧
      t = nextPair { s with
        kvRem := BitVec.ofNat 32 (be s.kvBuf s.kvPos (widthBytes s.kvW))
        kvPos := s.kvPos + widthBytes s.kvW }) ∨
    (s.kvState = .nlen ∧ s.kvPos + widthBytes s.kvW ≤ s.kvBuf.length ∧
      t = { s with
        kvNlen := BitVec.ofNat 32 (be s.kvBuf s.kvPos (widthBytes s.kvW))
        kvPos := s.kvPos + widthBytes s.kvW, kvState := .name }) ∨
    (s.kvState = .name ∧ s.kvPos + s.kvNlen.toNat ≤ s.kvBuf.length ∧
      t = { s with
        kvName := slice s.kvBuf s.kvPos s.kvNlen.toNat
        kvPos := s.kvPos + s.kvNlen.toNat, kvState := .vlen }) ∨
    (s.kvState = .vlen ∧ s.kvPos + widthBytes s.kvW ≤ s.kvBuf.length ∧
      t = { s with
        kvVlen := BitVec.ofNat 32 (be s.kvBuf s.kvPos (widthBytes s.kvW))
        kvPos := s.kvPos + widthBytes s.kvW, kvState := .value }) ∨
    (s.kvState = .value ∧ s.kvPos + s.kvVlen.toNat ≤ s.kvBuf.length ∧
      t = nextPair { s with
        kvPos := s.kvPos + s.kvVlen.toNat
        kvPairs := insertPair s.kvPairs (strip s.kvName s.ver)
          (slice s.kvBuf s.kvPos s.kvVlen.toNat)
        kvRem := s.kvRem - 1 }) := by
  unfold kvStep at h
  split at h <;> rename_i hk
  · exact .inl ⟨by rw [hk]; rfl, by simpa using h.symm⟩
  · exact .inl ⟨by rw [hk]; rfl, by simpa using h.symm⟩
  all_goals
    simp only [kvCount, kvReadNlen, kvReadName, kvReadVlen, kvReadValue, readPrefix_eq,
      readString_eq] at h
    split at h
    · exact .inr (.inl ⟨by rw [hk]; rfl, by simpa using h.symm⟩)
    · have ht := (Host.Outcome.next.inj h).symm
      have hl := Nat.le_of_not_lt ‹¬_›
      simp_all

/-- The two ends of a count or a value: the block is delivered, or the next pair begins. -/
theorem nextPair_cases (s : State) :
    (s.kvRem = 0 ∧ nextPair s = kvComplete s) ∨
    (s.kvRem ≠ 0 ∧ nextPair s = { s with kvState := .nlen }) := by
  unfold nextPair; split
  · exact .inl ⟨‹_›, rfl⟩
  · exact .inr ⟨‹_›, rfl⟩

/-! ### The pair store -/

/-- The names after an insertion: the same, or one more at the end. -/
theorem insertPair_names (pairs : Pairs) (name value : Bytes) :
    (insertPair pairs name value).map Prod.fst =
      if name ∈ pairs.map Prod.fst then pairs.map Prod.fst else pairs.map Prod.fst ++ [name] := by
  have key : pairs.any (fun p => p.1 == name) = true ↔ name ∈ pairs.map Prod.fst := by
    simp only [List.any_eq_true, beq_iff_eq, List.mem_map]
  unfold insertPair
  by_cases h : name ∈ pairs.map Prod.fst
  · rw [if_pos (key.2 h), if_pos h, List.map_map]
    apply List.map_congr_left
    intro p _
    simp only [Function.comp]; split <;> rfl
  · rw [if_neg (fun c => h (key.1 c)), if_neg h]; simp

theorem insertPair_length_le (pairs : Pairs) (name value : Bytes) :
    (insertPair pairs name value).length ≤ pairs.length + 1 := by
  unfold insertPair; split <;> simp

end Sys2Proof.Laws
end

