-- ==== Sys2Proof/Laws/Step.lean ====
section
/-! SUPPORT. What one step can do, said once: `step_cases`. -/

namespace Sys2Proof.Laws

open Sys2Proof.Machine

/-- The step is the block's own, or accepts a SUPPLY: no other transaction stands first. -/
def OwnStep (e : Option Event) : Prop :=
  e = none ∨ e = some .advance ∨ ∃ b, e = some (.supply b)

/-- Everything a step can do to a state whose first entry of `events`, `e`, has been taken off and, if
it is a SUPPLY, put on the supply port. -/
inductive Change (e : Option Event) (s : State) : State → Prop
  | idle : OwnStep e → Change e s s
  | header (i : Instr) (c : Bytes) (port : List Bytes) : OwnStep e → s.phase = .hdr →
      s.supplyPort = c :: port → c.length = s.need.toNat → decode c = .ok i →
      Change e s (supplyHeader true i { s with supplyPort := port })
  | body (c : Bytes) (port : List Bytes) : OwnStep e → s.phase = .body →
      s.supplyPort = c :: port → c.length = s.need.toNat →
      Change e s (bodyEffect (decodeWord s.hdrReg) c { s with supplyPort := port })
  | kv (t : State) : OwnStep e → kvReading s.kvState = true → kvStep s = .next t → Change e s t
  | bodyDone (f : Frame) : e = some (.bodyDone f) → s.phase = .busy → s.kvState = .idle →
      Change e s (completeFrame f s)
  | bodyErr (c : BodyErr) : e = some (.bodyErr c) → s.phase = .busy → s.kvState = .idle →
      Change e s (raise (bodyErrToErr c) s)
  | kvStart (c : Bytes) : e = some (.kvStart c) → s.phase = .busy → s.kvState = .idle →
      s.verValid = true →
      Change e s { signal (.decompReq c s.ver) s with
        kvW := widthOf s.ver, kvPairs := [], kvState := .decomp }
  | decompOk (d : Bytes) : e = some (.decompOk d) → s.kvState = .decomp →
      fitsKvBuf Config.kvBufMax d.length = true →
      Change e s { s with kvBuf := d, kvPos := 0, kvState := .count }
  | overflow (d : Bytes) : e = some (.decompOk d) → s.kvState = .decomp →
      fitsKvBuf Config.kvBufMax d.length = false →
      Change e s { signal (.kvErr (.codecError .bufferOverflow)) s with kvState := .idle }
  | decompErr (p : Bytes) : e = some (.decompErr p) → s.kvState = .decomp →
      Change e s { signal (.kvErr (.codecError (.codec p))) s with kvPairs := [], kvState := .idle }
  | resume : e = some .resume → s.phase = .error → Change e s (awaitHeader s)
  | reset : e = some .reset → Change e s (resetOp s)
  | withdraw : e = some .withdraw → Change e s { s with supplyPort := s.supplyPort.tail }

theorem acceptSupply_cases {e : Option Event} {s t : State} (he : OwnStep e)
    (h : acceptSupply s = .next t) : Change e s t := by
  unfold acceptSupply at h
  split at h <;> rename_i hp
  · unfold fetchHeader at h
    split at h
    · cases h; exact .idle he
    · rename_i c port hport
      split at h
      · split at h
        · rename_i i hi
          rw [exec_of_hdr _ _ (by exact hp)] at h
          cases h; exact .header i c port he hp hport ‹_› hi
        · cases h
      · cases h
  · rw [exec_of_body _ _ hp] at h
    rcases takeBody_next h with ⟨_, rfl⟩ | ⟨b, port, hport, hl, rfl⟩
    · exact .idle he
    · exact .body b port he hp hport hl
  all_goals cases h; exact .idle he

theorem advance_cases {e : Option Event} {s t : State} (he : OwnStep e)
    (h : advance s = .next t) : Change e s t := by
  unfold advance at h
  split at h
  · exact .kv t he ‹_› h
  · exact acceptSupply_cases he h

/-- One step: the first entry of `events` is taken off, a SUPPLY joins the supply port, and then one
of the changes happens. -/
theorem step_cases {s t : State} (h : step s = .next t) :
    ∃ port, (port = s.supplyPort ∨
        ∃ b, s.events.head? = some (.supply b) ∧ port = s.supplyPort ++ [b]) ∧
      Change s.events.head? { s with events := s.events.tail, supplyPort := port } t := by
  unfold step nextStep at h
  split at h <;> rename_i hev
  · refine ⟨s.supplyPort, .inl rfl, ?_⟩
    rw [hev, List.head?_nil, List.tail_nil]
    have hs : { s with events := [], supplyPort := s.supplyPort } = s := by rw [← hev]
    rw [hs]
    exact advance_cases (.inl rfl) h
  · rename_i e rest
    rw [hev, List.head?_cons, List.tail_cons]
    cases e <;> simp only [takeEvent] at h
    case supply b =>
      exact ⟨_, .inr ⟨b, rfl, rfl⟩, acceptSupply_cases (.inr (.inr ⟨b, rfl⟩)) h⟩
    all_goals refine ⟨s.supplyPort, .inl rfl, ?_⟩
    case bodyDone f =>
      unfold bodyDone at h; split at h
      · rename_i ha; simp only [awaitsBodyAnswer, Bool.and_eq_true, beq_iff_eq] at ha
        cases h; exact .bodyDone f rfl ha.1 ha.2
      · cases h
    case bodyErr c =>
      unfold bodyErr at h; split at h
      · rename_i ha; simp only [awaitsBodyAnswer, Bool.and_eq_true, beq_iff_eq] at ha
        cases h; exact .bodyErr c rfl ha.1 ha.2
      · cases h
    case kvStart c =>
      unfold kvStart at h; split at h
      · rename_i ha; cases h; exact .kvStart c rfl ha.1 ha.2.1 ha.2.2
      · cases h
    case decompOk d =>
      unfold decompOk at h; split at h
      · split at h
        · cases h; exact .decompOk d rfl ‹_› ‹_›
        · cases h; exact .overflow d rfl ‹_› (Bool.eq_false_iff.2 ‹_›)
      · cases h
    case decompErr p =>
      unfold decompErr at h; split at h
      · cases h; exact .decompErr p rfl ‹_›
      · cases h
    case resume =>
      unfold resume at h; split at h
      · cases h; exact .resume rfl ‹_›
      all_goals cases h
    case reset => cases h; exact .reset rfl
    case advance => exact advance_cases (.inr (.inl rfl)) h
    case withdraw => cases h; exact .withdraw rfl

end Sys2Proof.Laws
end

