-- ==== Sys2Proof/Laws/Memory.lean ====
section
/-! SUPPORT. The byte spaces keep their form (20_memory.md R60): the three operations that write one,
and reset. -/

namespace Sys2Proof.Laws

open Sys2Proof.Machine

theorem memory_wf_iff (s : State) :
    Memory.wf s = true ↔
      s.bodyBuf.length ≤ 0xFFFFFF ∧ fitsKvBuf Config.kvBufMax s.kvBuf.length = true := by
  rw [Memory.wf, Bool.and_eq_true, decide_eq_true_eq]

theorem fitsKvBuf_zero (max : Option Nat) : fitsKvBuf max 0 = true := by
  cases max <;> simp [fitsKvBuf]

/-- The form depends on the two byte strings only. -/
theorem memory_wf_congr {s t : State} (h : Memory.wf s = true) (hb : t.bodyBuf = s.bodyBuf)
    (hk : t.kvBuf = s.kvBuf) : Memory.wf t = true := by
  rw [memory_wf_iff, hb, hk]; exact (memory_wf_iff s).1 h

theorem memory_wf_reset : Memory.wf State.reset = true :=
  (memory_wf_iff _).2 ⟨by decide, fitsKvBuf_zero _⟩

/-- A body of a NEED's size keeps the form (R26, R136). -/
theorem memory_wf_dispatchBody (c : BodyClass) (h : FrameHeader) (b : Bytes) (s : State)
    (n : BitVec 24) (hl : b.length = n.toNat) (hs : Memory.wf s = true) :
    Memory.wf (dispatchBody c h b s) = true := by
  have hn : n.toNat ≤ 0xFFFFFF := by have := n.isLt; omega
  rw [memory_wf_iff, dispatchBody_bodyBuf, dispatchBody_kvBuf]
  exact ⟨hl ▸ hn, ((memory_wf_iff s).1 hs).2⟩

/-- The codec's answer keeps the form: a buffer that does not fit is not stored (R172). -/
theorem memory_wf_decompOk {d : Bytes} {s t : State}
    (h : decompOk Config.kvBufMax d s = .next t) (hs : Memory.wf s = true) : Memory.wf t = true := by
  unfold decompOk at h
  split at h
  · split at h <;> cases h
    · exact (memory_wf_iff _).2 ⟨((memory_wf_iff s).1 hs).1, ‹_›⟩
    · exact memory_wf_congr hs rfl rfl
  · cases h

theorem memory_wf_resetOp (s : State) : Memory.wf (resetOp s) = true :=
  memory_wf_congr memory_wf_reset rfl rfl

end Sys2Proof.Laws
end

