-- ==== Sys2Proof/Laws/PerInstr.lean ====
section
/-! SUPPORT. Statements made per instruction: the FrameHeader record of each header class (R110, R117). -/

namespace Sys2Proof.Laws.HeaderRecord

/-- HDR_DECODE of a control header's word gives its fields. -/
def Control (i : Instr) (v : BitVec 15) (t : BitVec 16) (f : BitVec 8) (l : BitVec 24) : Prop :=
  i.header = { control := true, version := some (v.setWidth 16), type := some t, id := none,
               flags := f, length := l }

/-- HDR_DECODE of a header's word gives exactly the header's own fields, the absent ones as none. -/
def Statement : Instr → Prop
  | .data id f l =>
    Instr.header (.data id f l) =
      { control := false, version := none, type := none, id := some (id.setWidth 32),
        flags := f, length := l }
  | .synStream v f l => Control (.synStream v f l) v 0x0001 f l
  | .synReply v f l => Control (.synReply v f l) v 0x0002 f l
  | .rstStream v f l => Control (.rstStream v f l) v 0x0003 f l
  | .settings v f l => Control (.settings v f l) v 0x0004 f l
  | .noop v f l => Control (.noop v f l) v 0x0005 f l
  | .ping v f l => Control (.ping v f l) v 0x0006 f l
  | .goaway v f l => Control (.goaway v f l) v 0x0007 f l
  | .headers v f l => Control (.headers v f l) v 0x0008 f l
  | .windowUpdate v f l => Control (.windowUpdate v f l) v 0x0009 f l
  | .xForwarded v f l => Control (.xForwarded v f l) v 0xF000 f l
  | .unknown v t f l => Control (.unknown v t f l) v t f l

theorem data (id : BitVec 31) (f : BitVec 8) (l : BitVec 24) : Statement (.data id f l) :=
  hdrDecode_dataWord id f l
theorem synStream (v : BitVec 15) (f : BitVec 8) (l : BitVec 24) : Statement (.synStream v f l) :=
  hdrDecode_controlWord v 0x0001 f l
theorem synReply (v : BitVec 15) (f : BitVec 8) (l : BitVec 24) : Statement (.synReply v f l) :=
  hdrDecode_controlWord v 0x0002 f l
theorem rstStream (v : BitVec 15) (f : BitVec 8) (l : BitVec 24) : Statement (.rstStream v f l) :=
  hdrDecode_controlWord v 0x0003 f l
theorem settings (v : BitVec 15) (f : BitVec 8) (l : BitVec 24) : Statement (.settings v f l) :=
  hdrDecode_controlWord v 0x0004 f l
theorem noop (v : BitVec 15) (f : BitVec 8) (l : BitVec 24) : Statement (.noop v f l) :=
  hdrDecode_controlWord v 0x0005 f l
theorem ping (v : BitVec 15) (f : BitVec 8) (l : BitVec 24) : Statement (.ping v f l) :=
  hdrDecode_controlWord v 0x0006 f l
theorem goaway (v : BitVec 15) (f : BitVec 8) (l : BitVec 24) : Statement (.goaway v f l) :=
  hdrDecode_controlWord v 0x0007 f l
theorem headers (v : BitVec 15) (f : BitVec 8) (l : BitVec 24) : Statement (.headers v f l) :=
  hdrDecode_controlWord v 0x0008 f l
theorem windowUpdate (v : BitVec 15) (f : BitVec 8) (l : BitVec 24) :
    Statement (.windowUpdate v f l) :=
  hdrDecode_controlWord v 0x0009 f l
theorem xForwarded (v : BitVec 15) (f : BitVec 8) (l : BitVec 24) : Statement (.xForwarded v f l) :=
  hdrDecode_controlWord v 0xF000 f l
theorem unknown (v : BitVec 15) (t : BitVec 16) (f : BitVec 8) (l : BitVec 24) :
    Statement (.unknown v t f l) :=
  hdrDecode_controlWord v t f l

end Sys2Proof.Laws.HeaderRecord
end

