-- ==== Sys2Proof/Tests/Slice0.lean ====
section
/-! SUPPORT. Tests: expected values are those of spec/95_test_vectors.md (vector named) or worked out by
hand from the rule cited. The witnesses show states and operands that meet a statement's hypotheses. -/

namespace Sys2Proof.Tests

open Sys2Proof Sys2Proof.Machine Sys2Proof.Safety

/-! ### Small states -/

/-- The state of `phase` and `need` with version 3 pinned. -/
def pinned3 (p : Phase) (need : BitVec 24) : State :=
  { State.reset with phase := p, need := need, verValid := true, ver := 3 }

/-- The same with version 2 pinned. -/
def pinned2 (p : Phase) (need : BitVec 24) : State :=
  { State.reset with phase := p, need := need, verValid := true, ver := 2 }

/-- `s` with `e` to come next. -/
def withEvent (e : Event) (s : State) : State := { s with events := [e] }

/-- `s` with `b` waiting on the supply port. -/
def waiting (b : Bytes) (s : State) : State := { s with supplyPort := [b] }

/-- BODY with the header word `w` in flight and `e` to come. -/
def inBody (w : BitVec 64) (e : Event) : State :=
  { pinned3 .body (lengthField w) with hdrReg := w, events := [e] }

/-- BUSY with version 3, the KV unit in state `k` on the buffer `d` at offset `pos`. -/
def busyKv (k : KvState) (d : Bytes) (pos : Nat) : State :=
  { pinned3 .busy 0 with
    hdrReg := 0x8003000200000000, kvState := k, kvW := .four, kvBuf := d, kvPos := pos, kvRem := 1 }

/-- What a host sees of an outcome: STATUS, NEED_R and the outputs so far. -/
def seen : Result → Option (BitVec 32 × BitVec 32 × List Output)
  | .next s => some (statusView s, needView s, s.outputs)
  | .fault _ | .refused _ => none

/-- The refusal an outcome is, if it is one. -/
def refusal : Result → Option Refusal
  | .refused r => some r
  | .next _ | .fault _ => none

/-- A field of the next state, if there is one. -/
def field {α : Type} (f : State → α) : Result → Option α
  | .next s => some (f s)
  | .fault _ | .refused _ => none

/-- The bytes of KV-01. -/
def kv01 : Bytes :=
  [0x00, 0x00, 0x00, 0x01, 0x00, 0x00, 0x00, 0x05, 0x3A, 0x68, 0x6F, 0x73, 0x74,
   0x00, 0x00, 0x00, 0x07, 0x65, 0x78, 0x61, 0x6D, 0x70, 0x6C, 0x65]

/-- "host", ":host" and "example". -/
def host : Bytes := [0x68, 0x6F, 0x73, 0x74]
def colonHost : Bytes := [0x3A, 0x68, 0x6F, 0x73, 0x74]
def exampleText : Bytes := [0x65, 0x78, 0x61, 0x6D, 0x70, 0x6C, 0x65]

/-! ### Well-formedness (R86, R87) -/

theorem test_wf_refuses_listed_types :
    listedTypes.all (fun t => !(Instr.unknown 3 t 0 0).wf) = true := by decide

theorem test_wf_accepts_unlisted_types :
    (Instr.unknown 3 0x000A 0 0).wf = true ∧ (Instr.unknown 3 0x0000 0 0).wf = true ∧
      (Instr.unknown 3 0xEFFF 0 0).wf = true ∧ (Instr.unknown 3 0xF001 0 0).wf = true := by decide

/-! ### Decoding: words written out from R81 to R83, R87 and H-01 to H-16 -/

theorem test_decode_data_h03 :
    decode [0x7F, 0xFF, 0xFF, 0xFF, 0x02, 0x00, 0x00, 0x00] = .ok (.data 0x7FFFFFFF 0x02 0) := by
  decide

theorem test_decode_data_h14 :
    decode [0x00, 0x00, 0x00, 0x01, 0x00, 0xFF, 0xFF, 0xFF] = .ok (.data 1 0 0xFFFFFF) := by decide

theorem test_decode_synStream_h06 :
    decode [0x81, 0x02, 0x00, 0x01, 0x00, 0x00, 0x00, 0x0A] = .ok (.synStream 258 0 10) := by decide

theorem test_decode_synStream_h16 :
    decode [0x80, 0x03, 0x00, 0x01, 0x03, 0x00, 0x00, 0x0A] = .ok (.synStream 3 0x03 10) := by decide

theorem test_decode_synReply :
    decode [0x80, 0x03, 0x00, 0x02, 0x01, 0x00, 0x00, 0x07] = .ok (.synReply 3 0x01 7) := by decide

theorem test_decode_rstStream :
    decode [0x80, 0x03, 0x00, 0x03, 0x00, 0x00, 0x00, 0x08] = .ok (.rstStream 3 0 8) := by decide

theorem test_decode_settings :
    decode [0x80, 0x02, 0x00, 0x04, 0x01, 0x00, 0x00, 0x0C] = .ok (.settings 2 0x01 12) := by decide

theorem test_decode_noop_h09 :
    decode [0x80, 0x02, 0x00, 0x05, 0xFF, 0x00, 0x00, 0x01] = .ok (.noop 2 0xFF 1) := by decide

theorem test_decode_ping_h01 :
    decode [0x80, 0x03, 0x00, 0x06, 0x00, 0x00, 0x00, 0x04] = .ok (.ping 3 0 4) := by decide

theorem test_decode_goaway :
    decode [0x80, 0x03, 0x00, 0x07, 0x00, 0x01, 0x02, 0x03] = .ok (.goaway 3 0 0x010203) := by decide

theorem test_decode_headers :
    decode [0x80, 0x02, 0x00, 0x08, 0x00, 0x00, 0x00, 0x08] = .ok (.headers 2 0 8) := by decide

theorem test_decode_windowUpdate_h15 :
    decode [0x80, 0x02, 0x00, 0x09, 0x00, 0x00, 0x00, 0x08] = .ok (.windowUpdate 2 0 8) := by decide

theorem test_decode_xForwarded_h07 :
    decode [0x80, 0x03, 0xF0, 0x00, 0x00, 0x00, 0x00, 0x07] = .ok (.xForwarded 3 0 7) := by decide

theorem test_decode_unknown_h02_h08 :
    decode [0xFF, 0xFF, 0xFF, 0xFF, 0xFF, 0xFF, 0xFF, 0xFF] = .ok (.unknown 0x7FFF 0xFFFF 0xFF 0xFFFFFF)
      ∧ decode [0x80, 0x00, 0x00, 0x00, 0x00, 0x00, 0x00, 0x00] = .ok (.unknown 0 0 0 0) := by decide

/-- H-11 to H-13: the neighbours of the listed types. -/
theorem test_decode_unknown_h11_h12_h13 :
    decode [0x80, 0x03, 0x00, 0x0A, 0x00, 0x00, 0x00, 0x00] = .ok (.unknown 3 0x000A 0 0) ∧
      decode [0x80, 0x03, 0xEF, 0xFF, 0x00, 0x00, 0x00, 0x00] = .ok (.unknown 3 0xEFFF 0 0) ∧
      decode [0x80, 0x03, 0xF0, 0x01, 0x00, 0x00, 0x00, 0x00] = .ok (.unknown 3 0xF001 0 0) := by decide

theorem test_decode_refuses_seven_and_nine_bytes :
    decode [0x80, 0x03, 0x00, 0x06, 0x00, 0x00, 0x00] = .error (.notEightBytes 7) ∧
      decode [0x80, 0x03, 0x00, 0x06, 0x00, 0x00, 0x00, 0x04, 0x00] = .error (.notEightBytes 9) := by
  decide

theorem test_decodeTableWord :
    decodeTableWord 64 0x8003000600000004 = some (.ping 3 0 4) ∧
      decodeTableWord 64 0x0000000180123456 = some (.data 1 0x80 0x123456) ∧
      decodeTableWord 64 0x8003F00000000000 = some (.xForwarded 3 0 0) := by decide

/-- The round-trip examples after H-16 (R95, R119). -/
theorem test_header_literals :
    assembleCtrl 258 1 0 10 = some [0x81, 0x02, 0x00, 0x01, 0x00, 0x00, 0x00, 0x0A] ∧
      assembleData 0x7FFFFFFF 2 0 = some [0x7F, 0xFF, 0xFF, 0xFF, 0x02, 0x00, 0x00, 0x00] := by decide

/-! ### One step, phase HDR -/

theorem test_reset_views : statusView State.reset = 0 ∧ needView State.reset = 0x01000008 := by decide

/-- P1, step 1. -/
theorem test_ping_header :
    seen (step (withEvent (.supply [0x80, 0x03, 0x00, 0x06, 0x00, 0x00, 0x00, 0x04]) State.reset)) =
      some (0x00000309, 0x01000004, []) := by decide

/-- C-01. -/
theorem test_version1_is_fatal :
    seen (step (withEvent (.supply [0x80, 0x01, 0x00, 0x06, 0x00, 0x00, 0x00, 0x04]) State.reset)) =
      some (0x00000014, 0x00000000, [.fail (.unsupportedVersion 1)]) := by decide

/-- C-02. -/
theorem test_version_0x7FFF_is_fatal :
    seen (step (withEvent (.supply [0xFF, 0xFF, 0x00, 0x06, 0x00, 0x00, 0x00, 0x04]) State.reset)) =
      some (0x00000014, 0x00000000, [.fail (.unsupportedVersion 0x7FFF)]) := by decide

/-- C-04. -/
theorem test_unknown_with_version7_is_fatal :
    seen (step (withEvent (.supply [0x80, 0x07, 0x00, 0x12, 0x00, 0x00, 0x00, 0x02]) State.reset)) =
      some (0x00000014, 0x00000000, [.fail (.unsupportedVersion 7)]) := by decide

/-- C-05: another version after the pin. -/
theorem test_noop_recheck_mismatch :
    seen (step (withEvent (.supply [0x80, 0x02, 0x00, 0x05, 0x00, 0x00, 0x00, 0x00]) (pinned3 .hdr 8))) =
      some (0x0000031C, 0x00000000, [.fail (.unsupportedVersion 2)]) := by decide

/-- C-06: the same with VERSION_RECHECK = false. -/
theorem test_no_recheck :
    statusView (supplyHeader false (.noop 2 0 0) (pinned3 .hdr 8)) = 0x00000309 ∧
      needView (supplyHeader false (.noop 2 0 0) (pinned3 .hdr 8)) = 0x01000000 := by decide

/-- C-07: a data header pins nothing. -/
theorem test_data_header :
    seen (step (withEvent (.supply [0x00, 0x00, 0x00, 0x01, 0x00, 0x00, 0x00, 0x02]) State.reset)) =
      some (0x00000001, 0x01000002, []) := by decide

/-- C-11. -/
theorem test_data_maximum_length :
    seen (step (withEvent (.supply [0x00, 0x00, 0x00, 0x01, 0x00, 0xFF, 0xFF, 0xFF]) State.reset)) =
      some (0x00000001, 0x01FFFFFF, []) := by decide

/-- C-12. -/
theorem test_wrong_length_is_refused :
    refusal (step (withEvent (.supply [0x80, 0x03, 0x00, 0x06, 0x00, 0x00, 0x00]) State.reset)) =
        some .wrongLengthSupply ∧
      refusal (step (inBody 0x8003000600000004 (.supply [0x00, 0x00, 0x00, 0x2A, 0x00]))) =
        some .wrongLengthSupply := by decide

/-- The header word of SYN_REPLY, placed where the next step takes it, is run by it (P2, step 1). -/
theorem test_withFetchWord :
    seen (step (State.reset.withFetchWord 64 0x8003000200000007)) = some (0x00000309, 0x01000007, []) := by
  decide

/-! ### One step, phase BODY -/

/-- S-02. -/
theorem test_data_body :
    seen (step (inBody 0x0000000501000003 (.supply [0x61, 0x62, 0x63]))) =
      some (0x00000308, 0x01000008, [.emit (.data 5 true false [0x61, 0x62, 0x63])]) := by decide

/-- C-10: flag bits 7 to 2 are ignored. -/
theorem test_data_high_flags_ignored :
    seen (step (inBody 0x00000009FC000001 (.supply [0x00]))) =
      some (0x00000308, 0x01000008, [.emit (.data 9 false false [0x00])]) := by decide

/-- C-09. -/
theorem test_noop_body :
    seen (step (inBody 0x8003000500000002 (.supply [0xAA, 0xBB]))) =
      some (0x00000308, 0x01000008, [.emit .noop]) := by decide

/-- S-03, C-03. -/
theorem test_unknown_body :
    seen (step (inBody 0x8003001200000002 (.supply [0xDE, 0xAD]))) =
      some (0x00000308, 0x01000008, [.emit (.unknown 0x0012 [0xDE, 0xAD])]) := by decide

/-- The record HDR_DECODE gives of a version-3 header with flags 0 (R110). -/
def record3 (type : BitVec 16) (length : BitVec 24) : FrameHeader :=
  { control := true, version := some 3, type := some type, id := none, flags := 0, length := length }

/-- P1, step 2. -/
theorem test_ping_body :
    seen (step (inBody 0x8003000600000004 (.supply [0x00, 0x00, 0x00, 0x2A]))) =
      some (0x0000030A, 0x00000000, [.dispatch .ping (record3 6 4) [0x00, 0x00, 0x00, 0x2A] (some 3)]) := by
  decide

/-- P2, step 2. -/
theorem test_synReply_body :
    seen (step (inBody 0x8003000200000007 (.supply [0x00, 0x00, 0x00, 0x01, 0x11, 0x22, 0x33]))) =
      some (0x0000030A, 0x00000000,
        [.dispatch .synReply (record3 2 7) [0x00, 0x00, 0x00, 0x01, 0x11, 0x22, 0x33] (some 3)]) := by
  decide

/-- P3, step 2. -/
theorem test_rstStream_body :
    seen (step (inBody 0x8003000300000007 (.supply [0x00, 0x00, 0x00, 0x01, 0x00, 0x00, 0x00]))) =
      some (0x0000030A, 0x00000000,
        [.dispatch .rstStream (record3 3 7) [0x00, 0x00, 0x00, 0x01, 0x00, 0x00, 0x00] (some 3)]) := by
  decide

/-- P6, step 2. -/
theorem test_headers_body :
    seen (step (inBody 0x8003000800000006 (.supply [0x00, 0x00, 0x00, 0x09, 0x99, 0x99]))) =
      some (0x0000030A, 0x00000000,
        [.dispatch .headers (record3 8 6) [0x00, 0x00, 0x00, 0x09, 0x99, 0x99] (some 3)]) := by decide

/-- R136, R210: the selectors of the other five classes, with an empty body. -/
theorem test_other_selectors :
    seen (step (inBody 0x8003000100000000 (.supply []))) =
        some (0x0000030A, 0, [.dispatch .synStream (record3 1 0) [] (some 3)]) ∧
      seen (step (inBody 0x8003000400000000 (.supply []))) =
        some (0x0000030A, 0, [.dispatch .settings (record3 4 0) [] (some 3)]) ∧
      seen (step (inBody 0x8003000700000000 (.supply []))) =
        some (0x0000030A, 0, [.dispatch .goaway (record3 7 0) [] (some 3)]) ∧
      seen (step (inBody 0x8003000900000000 (.supply []))) =
        some (0x0000030A, 0, [.dispatch .windowUpdate (record3 9 0) [] (some 3)]) ∧
      seen (step (inBody 0x8003F00000000000 (.supply []))) =
        some (0x0000030A, 0, [.dispatch .xForwarded (record3 0xF000 0) [] (some 3)]) := by decide

/-! ### One step, the other ports -/

/-- P1, step 3. -/
theorem test_bodyDone :
    seen (step (withEvent (.bodyDone (.ping 42)) (pinned3 .busy 0))) =
      some (0x00000308, 0x01000008, [.emit (.ping 42)]) := by decide

/-- C-14. -/
theorem test_body_answers_in_the_wrong_state :
    refusal (step (withEvent (.bodyDone (.ping 1)) (pinned3 .hdr 8))) = some .bodyAnswerNotAwaited ∧
      refusal (step (withEvent (.bodyErr .frameTruncated) (busyKv .decomp [] 0))) =
        some .bodyAnswerNotAwaited := by decide

/-- C-15, P6 step 5. -/
theorem test_bodyErr :
    seen (step (withEvent (.bodyErr .frameTruncated) (pinned3 .busy 0))) =
        some (0x0000032B, 0x00000000, [.fail .frameTruncated]) ∧
      seen (step (withEvent (.bodyErr (.codecError (.codec [0xE1]))) (pinned3 .busy 0))) =
        some (0x0000034B, 0x00000000, [.fail (.codecError (.codec [0xE1]))]) := by decide

/-- C-15: ERR survives RESUME. -/
theorem test_resume :
    seen (step (withEvent .resume { pinned3 .error 0 with err := .frameTruncated })) =
      some (0x00000328, 0x01000008, []) := by decide

/-- C-17. -/
theorem test_resume_refused_elsewhere :
    [Phase.hdr, .body, .busy, .fatal].all
      (fun p => refusal (step (withEvent .resume (pinned3 p 0))) == some .resumeOutsideError) = true := by
  decide

/-- C-16. -/
theorem test_reset_in_flight :
    seen (step (withEvent .reset (busyKv .decomp [] 0))) = some (0x00000000, 0x01000008, []) := by decide

/-- C-13, P3 step 8: a SUPPLY waits in BUSY and in FATAL. -/
theorem test_supply_waits :
    field State.supplyPort (step (withEvent (.supply [0x01]) (pinned3 .busy 0))) = some [[0x01]] ∧
      seen (step (withEvent (.supply [0x00, 0x00, 0x00, 0x2A])
        { pinned3 .fatal 0 with err := .unsupportedVersion })) = some (0x0000031C, 0, []) := by decide

/-! ### One step, the KV unit -/

/-- P2, step 3. -/
theorem test_kvStart :
    seen (step (withEvent (.kvStart [0x11, 0x22, 0x33]) (pinned3 .busy 0))) =
      some (0x0080030A, 0x00000000, [.decompReq [0x11, 0x22, 0x33] 3]) ∧
    field State.kvW (step (withEvent (.kvStart []) (pinned2 .busy 0))) = some .two := by decide

/-- KV-24. -/
theorem test_buffer_overflow :
    seen (decompOk (some 4) [0x00, 0x01, 0x00, 0x01, 0x61] (busyKv .decomp [] 0)) =
      some (0x0000030A, 0, [.kvErr (.codecError .bufferOverflow)]) ∧
    seen (decompOk none kv01 (busyKv .decomp [] 0)) = some (0x0100030A, 0, []) := by decide

/-- P6, step 4. -/
theorem test_decompErr :
    seen (step (withEvent (.decompErr [0xE1]) (busyKv .decomp [] 0))) =
      some (0x0000030A, 0x00000000, [.kvErr (.codecError (.codec [0xE1]))]) := by decide

/-- The trace of KV-01: KV_COUNT and KV_NLEN. -/
theorem test_kv01_count_nlen :
    field (fun s => (s.kvRem, s.kvPos, s.kvState)) (step (busyKv .count kv01 0)) = some (1, 4, .nlen) ∧
      field (fun s => (s.kvNlen, s.kvPos, s.kvState)) (step (busyKv .nlen kv01 4)) =
        some (5, 8, .name) := by decide

/-- The trace of KV-01: KV_NAME and KV_VLEN. -/
theorem test_kv01_name_vlen :
    field (fun s => (s.kvName, s.kvPos, s.kvState)) (step { busyKv .name kv01 8 with kvNlen := 5 }) =
        some (colonHost, 13, .vlen) ∧
      field (fun s => (s.kvVlen, s.kvPos, s.kvState)) (step (busyKv .vlen kv01 13)) =
        some (7, 17, .value) := by decide

/-- The trace of KV-01: KV_VALUE. -/
theorem test_kv01_value :
    seen (step { busyKv .value kv01 17 with kvName := colonHost, kvVlen := 7 }) =
      some (0x0000030A, 0, [.kvDone [(host, exampleText)]]) := by decide

/-- KV-15: a length of 0xFFFFFFFF does not wrap. -/
theorem test_kv_no_wrap :
    seen (step { busyKv .name [0x00, 0x00, 0x00, 0x01, 0xFF, 0xFF, 0xFF, 0xFF, 0x61, 0x62] 8 with
      kvNlen := 0xFFFFFFFF }) = some (0x0000030A, 0, [.kvErr .headerBlockTruncated]) := by decide

/-- KV-01 to KV-03. -/
theorem test_kvParse_success :
    kvParse kv01 3 = some [(host, exampleText)] ∧
      kvParse [0x00, 0x01, 0x00, 0x05, 0x3A, 0x68, 0x6F, 0x73, 0x74, 0x00, 0x07,
        0x65, 0x78, 0x61, 0x6D, 0x70, 0x6C, 0x65] 2 = some [(colonHost, exampleText)] ∧
      kvParse [0x00, 0x00] 2 = some [] := by decide

/-- KV-04, KV-06, KV-07, KV-08, KV-09, KV-21. -/
theorem test_kvParse_truncated :
    kvParse [] 2 = none ∧ kvParse [] 3 = none ∧ kvParse [0x00, 0x00, 0x00, 0x01] 3 = none ∧
      kvParse [0x00, 0x01, 0x00, 0x03, 0x61, 0x62] 2 = none ∧
      kvParse [0x00, 0x01, 0x00, 0x01, 0x61] 2 = none ∧
      kvParse [0x00, 0x01, 0x00, 0x01, 0x61, 0x00, 0x02, 0x62] 2 = none ∧
      kvParse [0x00, 0x02, 0x00, 0x01, 0x61, 0x00, 0x01, 0x62] 2 = none := by decide

/-- KV-12, KV-14, KV-17, KV-19. -/
theorem test_kvParse_names :
    kvParse [0, 0, 0, 2, 0, 0, 0, 2, 0x3A, 0x61, 0, 0, 0, 1, 0x31, 0, 0, 0, 1, 0x61, 0, 0, 0, 1, 0x32] 3 =
        some [([0x61], [0x32])] ∧
      kvParse [0, 0, 0, 1, 0, 0, 0, 1, 0x3A, 0, 0, 0, 1, 0x76] 3 = some [([], [0x76])] ∧
      kvParse kv01 2 = some [] ∧
      kvParse [0, 3, 0, 1, 0x61, 0, 1, 0x31, 0, 1, 0x62, 0, 1, 0x32, 0, 1, 0x61, 0, 1, 0x33] 2 =
        some [([0x61], [0x33]), ([0x62], [0x32])] := by decide

/-! ### The reference body decoder -/

/-- S-04, B-01, B-02. -/
theorem test_contract_rstStream :
    decodeBody .rstStream 3 [0, 0, 0, 7, 0, 0, 0, 5] = .done (.rstStream 7 5 none) ∧
      decodeBody .rstStream 3 [0, 0, 0, 7, 0, 0, 0, 5, 0xFF] = .done (.rstStream 7 5 (some [0xFF])) ∧
      decodeBody .rstStream 3 [0, 0, 0, 7, 0, 0, 0] = .err .frameTruncated ∧
      decodeBody .rstStream 3 [0x80, 0, 0, 7, 0xFF, 0xFF, 0xFF, 0xFF] =
        .done (.rstStream 7 0xFFFFFFFF none) := by decide

/-- S-05, B-03 to B-07. -/
theorem test_contract_settings :
    decodeBody .settings 3 [0, 0, 0, 1, 0, 0, 0, 7, 0, 0, 0] = .err .frameTruncated ∧
      decodeBody .settings 3 [0, 0, 0, 2, 0, 0, 0, 7, 0, 0, 0, 1, 0, 0, 0, 7, 0, 0, 0, 2] =
        .done (.settings [(7, { value := 2, persist := false, persisted := false })]) ∧
      decodeBody .settings 3 [0xFF, 0xFF, 0xFF, 0xFF] = .err .frameTruncated ∧
      decodeBody .settings 2 [0, 0, 0, 1, 4, 0, 0, 1, 0, 0, 3, 0xE8] =
        .done (.settings [(4, { value := 1000, persist := true, persisted := false })]) ∧
      decodeBody .settings 3 [0, 0, 0, 1, 4, 0, 0, 1, 0, 0, 3, 0xE8] =
        .done (.settings [(1, { value := 1000, persist := false, persisted := false })]) ∧
      decodeBody .settings 3 [0, 0, 0, 0] = .done (.settings []) := by decide

/-- B-08 to B-15. -/
theorem test_contract_fixed :
    decodeBody .ping 3 [0, 0, 0] = .err .frameTruncated ∧
      decodeBody .ping 3 [0, 0, 0, 0x2A, 0x11, 0x22] = .done (.ping 42) ∧
      decodeBody .goaway 3 [0xFF, 0xFF, 0xFF, 0xFF] = .done (.goaway 0x7FFFFFFF) ∧
      decodeBody .windowUpdate 3 [0xFF, 0xFF, 0xFF, 0xFF, 0xFF, 0xFF, 0xFF, 0xFF] =
        .done (.windowUpdate 0x7FFFFFFF 0x7FFFFFFF) ∧
      decodeBody .windowUpdate 3 [0, 0, 0, 1, 0, 0, 0x10] = .err .frameTruncated ∧
      decodeBody .xForwarded 3 [0, 0, 0, 4, 0x61, 0x62, 0x63] = .err .frameTruncated ∧
      decodeBody .xForwarded 3 [0, 0, 0, 0] = .done (.xForwarded []) ∧
      decodeBody .xForwarded 3 [0, 0, 0] = .err .frameTruncated := by decide

/-- B-16 to B-20. -/
theorem test_contract_kv :
    decodeBody .synStream 3 [0, 0, 0, 1, 0, 0, 0, 0, 0xE0] = .err .frameTruncated ∧
      decodeBody .synStream 3 [0, 0, 0, 1, 0, 0, 0, 0, 0xE0, 0] = .kvStart [] ∧
      decodeBody .synReply 2 [0, 0, 0, 1, 0] = .err .frameTruncated ∧
      decodeBody .synReply 3 [0, 0, 0, 1] = .kvStart [] ∧
      decodeBody .headers 2 [0, 0, 0, 3, 0, 0, 0xAB, 0xCD] = .kvStart [0xAB, 0xCD] := by decide

/-- B-18, B-22, B-23, B-24. -/
theorem test_contract_frames :
    finishKv false .synStream 0 [0x80, 0, 0, 3, 0x80, 0, 0, 1, 0x1F, 0] [(nameUrl, [0x2F, 0x79])] =
        some (.done (.synStream 3 1 0 false false [(nameUrl, [0x2F, 0x79])] [0x2F, 0x79])) ∧
      finishKv false .synReply 1 [0, 0, 0, 1] [(nameUrl, [0x2F, 0x79]), (namePath, [0x2F, 0x78])] =
        some (.done (.synReply 1 true [(nameUrl, [0x2F, 0x79]), (namePath, [0x2F, 0x78])]
          [0x2F, 0x78])) ∧
      finishKv false .synStream 0 [0, 0, 0, 1, 0, 0, 0, 0, 0xE0, 0] [] =
        some (.done (.synStream 1 0 7 false false [] [])) := by decide

/-- R212, D23: with REQUIRE_REQUEST_LINE a SYN_STREAM without a request line has no frame. -/
theorem test_contract_request_line :
    finishKv true .synStream 0 [0, 0, 0, 1, 0, 0, 0, 0, 0xE0, 0] [] = none := by decide

/-! ### Witnesses: states and operands that meet the statements' hypotheses, clause by clause

The name after `witness_` is the obligation's. Where two clauses meet, the values are those next to the
border. -/

theorem witness_DecodeOfEncodeIsTheInstruction :
    (Instr.unknown 0x7FFF 0xFFFF 0xFF 0xFFFFFF).wf = true ∧
      decode (encode (.unknown 0x7FFF 0xFFFF 0xFF 0xFFFFFF)) =
        .ok (.unknown 0x7FFF 0xFFFF 0xFF 0xFFFFFF) := by decide

theorem witness_EveryEightBytesAreOneHeader :
    (List.replicate 8 (0xFF : Byte)).length = 8 ∧ (List.replicate 7 (0xFF : Byte)).length ≠ 8 := by
  decide

theorem witness_ReencodingDecodedHeaderGivesItsBytes :
    (bytesOfWord 0x810200010000000A).length = 8 ∧
      hdrDecode (wordOfBytes (bytesOfWord 0x810200010000000A)) =
        hdrDecode (wordOfBytes [0x81, 0x02, 0x00, 0x01, 0x00, 0x00, 0x00, 0x0A]) := by decide

/-- The last data word and the first control word, then a word for each clause on the type. -/
theorem witness_HeaderClassFollowsBit63AndType :
    (0x7FFFFFFFFFFFFFFF#64).toNat < 2 ^ 63 ∧ 2 ^ 63 ≤ (0x8000000000000000#64).toNat ∧
      (0x8000000000000000#64).toNat / 2 ^ 32 % 2 ^ 16 = 0 ∧
      (0x8000000100000000#64).toNat / 2 ^ 32 % 2 ^ 16 = 0x0001 ∧
      (0x8000000200000000#64).toNat / 2 ^ 32 % 2 ^ 16 = 0x0002 ∧
      (0x8000000300000000#64).toNat / 2 ^ 32 % 2 ^ 16 = 0x0003 ∧
      (0x8000000400000000#64).toNat / 2 ^ 32 % 2 ^ 16 = 0x0004 ∧
      (0x8000000500000000#64).toNat / 2 ^ 32 % 2 ^ 16 = 0x0005 ∧
      (0x8000000600000000#64).toNat / 2 ^ 32 % 2 ^ 16 = 0x0006 ∧
      (0x8000000700000000#64).toNat / 2 ^ 32 % 2 ^ 16 = 0x0007 ∧
      (0x8000000800000000#64).toNat / 2 ^ 32 % 2 ^ 16 = 0x0008 ∧
      (0x8000000900000000#64).toNat / 2 ^ 32 % 2 ^ 16 = 0x0009 ∧
      (0x8000000A00000000#64).toNat / 2 ^ 32 % 2 ^ 16 = 10 ∧
      (0x8000F00000000000#64).toNat / 2 ^ 32 % 2 ^ 16 = 0xF000 := by decide

theorem witness_HeaderFieldsAreByteReads :
    (bytesOfWord 0xFFFFFFFFFFFFFFFF).length = 8 ∧
      (hdrDecode (wordOfBytes (bytesOfWord 0xFFFFFFFFFFFFFFFF))).control = true ∧
      (hdrDecode (wordOfBytes (bytesOfWord 0x7FFFFFFFFFFFFFFF))).control = false := by decide

/-- The greatest values that fit, and the least of each field that does not. -/
theorem witness_HeaderLiteralsDecodeToTheirFields :
    assembleCtrl 0x7FFF 0xFFFF 0xFF 0xFFFFFF = some (List.replicate 8 0xFF) ∧
      assembleData 0x7FFFFFFF 0xFF 0xFFFFFF = some (0x7F :: List.replicate 7 0xFF) ∧
      assembleCtrl 0x8000 0 0 0 = none ∧ assembleCtrl 0 0x10000 0 0 = none ∧
      assembleCtrl 0 0 0x100 0 = none ∧ assembleCtrl 0 0 0 0x1000000 = none ∧
      assembleData 0x80000000 0 0 = none ∧ assembleData 0 0x100 0 = none ∧
      assembleData 0 0 0x1000000 = none := by decide

/-- Phase HDR with nothing waiting before, and phase BODY. -/
theorem witness_StepRunsTheDecodedHeader :
    (withEvent (.supply (bytesOfWord 0x8003000600000004)) State.reset).events =
        [.supply (bytesOfWord 0x8003000600000004)] ∧
      State.reset.supplyPort ++ [bytesOfWord 0x8003000600000004] =
        [bytesOfWord 0x8003000600000004] ∧
      State.reset.phase = .hdr ∧
      (bytesOfWord 0x8003000600000004).length = State.reset.need.toNat ∧
      decode (bytesOfWord 0x8003000600000004) = .ok (.ping 3 0 4) ∧
      (inBody 0x8003000600000004 (.supply [0, 0, 0, 42])).events = [.supply [0, 0, 0, 42]] ∧
      (inBody 0x8003000600000004 (.supply [0, 0, 0, 42])).phase = .body := by decide

/-- A state for each of the five clauses. -/
theorem witness_BlockTakesItsOwnStep :
    ((busyKv .count kv01 0).events = [] ∧ kvReading (busyKv .count kv01 0).kvState = true) ∧
      ((withEvent .advance State.reset).events.head? = some .advance ∧
        kvReading State.reset.kvState = false ∧ State.reset.supplyPort = []) ∧
      (supplyReady (waiting [1] (pinned3 .busy 0)) = false ∧
        (waiting [1] (pinned3 .busy 0)).events = [] ∧
        kvReading (waiting [1] (pinned3 .busy 0)).kvState = false) ∧
      ((waiting (encode (.noop 3 0 0)) (pinned3 .hdr 8)).supplyPort = [encode (.noop 3 0 0)] ∧
        (encode (.noop 3 0 0)).length = (pinned3 .hdr 8).need.toNat ∧
        decode (encode (.noop 3 0 0)) = .ok (.noop 3 0 0)) ∧
      ((waiting [] (pinned3 .body 0)).phase = .body ∧
        kvReading (waiting [] (pinned3 .body 0)).kvState = false) := by decide

/-- A data header and, before and after the pin, a control header that passes. -/
theorem witness_AcceptedHeaderAwaitsItsBody :
    State.reset.phase = .hdr ∧ versionPasses (.data 5 1 3) State.reset ∧
      versionPasses (.ping 2 0 4) State.reset ∧ versionPasses (.ping 3 0 4) State.reset ∧
      versionPasses (.ping 3 0 4) (pinned3 .hdr 8) := by
  refine ⟨rfl, ?_, ?_, ?_, ?_⟩ <;> intro v hv <;> cases hv <;> decide

/-- What SupplyHeaderStep asks of a state and a chunk. -/
def awaitsChunk (b : Bytes) (s : State) : Bool :=
  s.events == [.supply b] && s.supplyPort == [] && s.phase == .hdr && s.need == 8 && b.length == 8

/-- The clauses: a data header; first versions 2 and 3; the pinned version; first version 4; another
version than the pinned one. -/
theorem witness_SupplyHeaderStep :
    awaitsChunk (encode (.data 5 1 3)) (withEvent (.supply (encode (.data 5 1 3))) State.reset) = true ∧
      (hdrDecode (wordOfBytes (encode (.data 5 1 3)))).control = false ∧
      awaitsChunk (encode (.noop 2 0 0)) (withEvent (.supply (encode (.noop 2 0 0))) State.reset) = true ∧
      (hdrDecode (wordOfBytes (encode (.noop 2 0 0)))).version = some ((2#15).setWidth 16) ∧
      (hdrDecode (wordOfBytes (encode (.noop 3 0 0)))).version = some ((3#15).setWidth 16) ∧
      (hdrDecode (wordOfBytes (encode (.noop 4 0 0)))).version = some ((4#15).setWidth 16) ∧
      State.reset.verValid = false ∧
      awaitsChunk (encode (.noop 2 0 0))
        (withEvent (.supply (encode (.noop 2 0 0))) (pinned3 .hdr 8)) = true ∧
      (pinned3 .hdr 8).verValid = true ∧ (3#15) = (pinned3 .hdr 8).ver ∧
      (2#15) ≠ (pinned3 .hdr 8).ver := by decide

/-- Versions 1 to 4 before the pin, and 3 and 2 after it, with the recheck and without. -/
theorem witness_VersionRecheckIsAParameter :
    (supplyHeader true (.ping 2 0 4) State.reset).phase = .body ∧
      (supplyHeader false (.ping 3 0 4) State.reset).phase = .body ∧
      (supplyHeader true (.ping 1 0 4) State.reset).phase = .fatal ∧
      (supplyHeader false (.ping 4 0 4) State.reset).phase = .fatal ∧
      (supplyHeader true (.ping 3 0 4) (pinned3 .hdr 8)).phase = .body ∧
      (supplyHeader false (.ping 2 0 4) (pinned3 .hdr 8)).phase = .body ∧
      (supplyHeader true (.ping 2 0 4) (pinned3 .hdr 8)).phase = .fatal := by decide

/-- For the four statements on a body: an empty body and one of 3 bytes. -/
theorem witness_bodies :
    ((waiting [] (pinned3 .body 0)).phase = .body ∧ (waiting [] (pinned3 .body 0)).supplyPort = [[]] ∧
        ([] : Bytes).length = (pinned3 .body 0).need.toNat) ∧
      ((waiting [1, 2, 3] (pinned3 .body 3)).supplyPort = [[1, 2, 3]] ∧
        ([1, 2, 3] : Bytes).length = (pinned3 .body 3).need.toNat) := by decide

/-- For their second clauses: what the step on a SUPPLY of the body asks of a state and a body. -/
def awaitsBody (b : Bytes) (s : State) : Bool :=
  s.events == [.supply b] && s.supplyPort == [] && s.phase == .body && b.length == s.need.toNat

/-- A header in flight of each kind. -/
theorem witness_bodies_in_flight :
    (awaitsBody [] (inBody 0x0000000501000000 (.supply [])) = true ∧
        (hdrDecode 0x0000000501000000).id = some ((5#31).setWidth 32)) ∧
      (awaitsBody [1] (inBody 0x8003000500000001 (.supply [1])) = true ∧
        (hdrDecode 0x8003000500000001).type = some 0x0005) ∧
      (awaitsBody [1] (inBody 0x8003FFFF00000001 (.supply [1])) = true ∧
        (hdrDecode 0x8003FFFF00000001).type = some 0xFFFF ∧ (0xFFFF#16) ∉ listedTypes) ∧
      (awaitsBody [] (inBody 0x8003F00000000000 (.supply [])) = true ∧
        (hdrDecode 0x8003F00000000000).type = some 0xF000 ∧ sel 0xF000 = .decoder .xForwarded) := by
  decide

theorem witness_DataBodyIsEmittedRaw :
    seen (exec (.data 5 3 0) (waiting [] (pinned3 .body 0))) =
      some (0x00000308, 0x01000008, [.emit (.data 5 true true [])]) := by decide

theorem witness_NoopBodyIsDropped :
    seen (exec (.noop 3 0 3) (waiting [1, 2, 3] (pinned3 .body 3))) =
      some (0x00000308, 0x01000008, [.emit .noop]) := by decide

theorem witness_UnknownBodyIsPassedThrough :
    seen (exec (.unknown 3 10 0 3) (waiting [1, 2, 3] (pinned3 .body 3))) =
      some (0x00000308, 0x01000008, [.emit (.unknown 10 [1, 2, 3])]) := by decide

theorem witness_ControlBodyIsDispatched :
    seen (exec (.goaway 3 0 3) (waiting [1, 2, 3] (pinned3 .body 3))) =
      some (0x0000030A, 0, [.dispatch .goaway (record3 7 3) [1, 2, 3] (some 3)]) := by decide

theorem witness_SupplyWaitsWhileNotReady :
    [Phase.busy, .error, .fatal].all (fun p =>
      seen (step (withEvent (.supply [1]) (pinned3 p 0))) == seen (.next (pinned3 p 0))) = true := by
  decide

/-- One byte short and one too many in HDR, and one too many in BODY. -/
theorem witness_WrongLengthSupplyIsRefused :
    ((withEvent (.supply (List.replicate 7 0)) (pinned3 .hdr 8)).phase = .hdr ∧
      (withEvent (.supply (List.replicate 7 0)) (pinned3 .hdr 8)).supplyPort = [] ∧
      (List.replicate 7 (0 : Byte)).length ≠ (pinned3 .hdr 8).need.toNat) ∧
      (List.replicate 9 (0 : Byte)).length ≠ (pinned3 .hdr 8).need.toNat ∧
      (withEvent (.supply [1]) (pinned3 .body 0)).phase = .body ∧
      ([1] : Bytes).length ≠ (pinned3 .body 0).need.toNat := by decide

/-- A step into BODY, one back to HDR, one into an error phase, and one within it. -/
theorem witness_RequestCountsFollowTheFrame :
    field State.phase (step (withEvent (.supply (encode (.ping 3 0 0))) State.reset)) = some .body ∧
      field State.phase (step (inBody 0x8003000500000000 (.supply []))) = some .hdr ∧
      field State.phase (step (withEvent (.bodyDone .noop) (pinned3 .busy 0))) = some .hdr ∧
      field State.phase (step (withEvent (.bodyErr .frameTruncated) (pinned3 .busy 0))) = some .error ∧
      field State.phase (step (withEvent (.supply (encode (.ping 1 0 0))) State.reset)) = some .fatal ∧
      field State.phase (step (withEvent .advance (pinned3 .error 0))) = some .error := by decide

/-- The clauses of BODY_DONE and BODY_ERR: BUSY with the KV unit idle; another phase; a KV block in
progress. -/
theorem witness_BodyDoneEmitsTheFrame :
    ((withEvent (.bodyDone .noop) (pinned3 .busy 0)).phase = .busy ∧
        (withEvent (.bodyDone .noop) (pinned3 .busy 0)).kvState = .idle) ∧
      (withEvent (.bodyDone .noop) (pinned3 .body 0)).phase ≠ .busy ∧
      (withEvent (.bodyDone .noop) (busyKv .value [] 0)).kvState ≠ .idle := by decide

theorem witness_BodyErrEntersError :
    ((withEvent (.bodyErr .headerBlockTruncated) (pinned3 .busy 0)).phase = .busy ∧
        (withEvent (.bodyErr .headerBlockTruncated) (pinned3 .busy 0)).kvState = .idle) ∧
      (withEvent (.bodyErr .frameTruncated) (pinned3 .error 0)).phase ≠ .busy ∧
      (withEvent (.bodyErr .frameTruncated) (busyKv .count [] 0)).kvState ≠ .idle := by decide

theorem witness_ResumeReturnsFromError :
    (withEvent .resume (pinned3 .error 0)).phase = .error ∧
      (withEvent .resume (pinned3 .fatal 0)).phase ≠ .error ∧
      (withEvent .resume (pinned3 .error 0)).events = [.resume] := by decide

theorem witness_ResetLeavesTheResetValues :
    (withEvent .reset (busyKv .value kv01 17)).events = [.reset] ∧
      (withEvent .reset (pinned3 .fatal 0)).events = [.reset] := by decide

theorem witness_PowerOnIsTheStateAfterReset :
    field State.hdrReg (step (withEvent .reset (busyKv .value kv01 17))) = some State.reset.hdrReg := by
  decide

/-- Accepted; then each of the three conditions missing alone. -/
theorem witness_KvStartRequestsDecompression :
    ((withEvent (.kvStart []) (pinned2 .busy 0)).phase = .busy ∧
        (pinned2 .busy 0).kvState = .idle ∧ (pinned2 .busy 0).verValid = true) ∧
      refusal (step (withEvent (.kvStart []) (pinned3 .body 0))) = some .kvStartNotAccepted ∧
      refusal (step (withEvent (.kvStart []) (busyKv .decomp [] 0))) = some .kvStartNotAccepted ∧
      refusal (step (withEvent (.kvStart []) { pinned3 .busy 0 with verValid := false })) =
        some .kvStartNotAccepted := by decide

/-- A buffer of exactly KV_BUF_MAX bytes, one longer, no maximum, and the wrong state. -/
theorem witness_DecompOkLoadsTheBuffer :
    seen (decompOk (some 1) [1] (busyKv .decomp [] 0)) = some (0x0100030A, 0, []) ∧
      seen (decompOk (some 1) [1, 2] (busyKv .decomp [] 0)) =
        some (0x0000030A, 0, [.kvErr (.codecError .bufferOverflow)]) ∧
      seen (decompOk none [1, 2] (busyKv .decomp [] 0)) = some (0x0100030A, 0, []) ∧
      refusal (decompOk (some 1) [1] (busyKv .count [] 0)) = some .codecAnswerNotAwaited := by decide

theorem witness_DecompErrPassesThePayloadOn :
    (busyKv .decomp [] 0).kvState = .decomp ∧
      refusal (step (withEvent (.decompErr []) (busyKv .count [] 0))) = some .codecAnswerNotAwaited := by
  decide

/-- One byte too few; a count of 0 that just fits; a count of 1. -/
theorem witness_KvCountReadsTheCount :
    seen (step (busyKv .count [0, 0, 0] 0)) = some (0x0000030A, 0, [.kvErr .headerBlockTruncated]) ∧
      seen (step (busyKv .count [0, 0, 0, 0] 0)) = some (0x0000030A, 0, [.kvDone []]) ∧
      seen (step (busyKv .count [0, 0, 0, 1] 0)) = some (0x0180030A, 0, []) := by decide

/-- One byte too few, and exactly enough, for both fields. -/
theorem witness_KvPrefixesAreLoaded :
    seen (step (busyKv .nlen [0, 0, 0] 0)) = some (0x0000030A, 0, [.kvErr .headerBlockTruncated]) ∧
      field State.kvNlen (step (busyKv .nlen [0xFF, 0, 0, 1] 0)) = some 0xFF000001 ∧
      seen (step (busyKv .vlen [0, 0, 0] 0)) = some (0x0000030A, 0, [.kvErr .headerBlockTruncated]) ∧
      field State.kvVlen (step (busyKv .vlen [0xFF, 0, 0, 1] 0)) = some 0xFF000001 := by decide

/-- One byte too few, exactly enough, and an empty name at the end. -/
theorem witness_KvNameIsKept :
    seen (step { busyKv .name [1, 2] 0 with kvNlen := 3 }) =
        some (0x0000030A, 0, [.kvErr .headerBlockTruncated]) ∧
      field State.kvName (step { busyKv .name [1, 2] 0 with kvNlen := 2 }) = some [1, 2] ∧
      field State.kvName (step { busyKv .name [1, 2] 2 with kvNlen := 0 }) = some [] := by decide

/-- One byte too few; the last pair (KV_REM = 1). -/
theorem witness_KvValueInsertsThePair :
    seen (step { busyKv .value [1] 0 with kvVlen := 2 }) =
        some (0x0000030A, 0, [.kvErr .headerBlockTruncated]) ∧
      seen (step { busyKv .value [1] 0 with kvVlen := 1 }) =
        some (0x0000030A, 0, [.kvDone [([], [1])]]) := by decide

/-- A pair before the last (KV_REM = 2). -/
theorem witness_KvValueInsertsThePair_more :
    field (fun s => (s.kvRem, s.kvState, s.kvPairs))
      (step { busyKv .value [1] 0 with kvVlen := 1, kvRem := 2 }) =
        some (1, .nlen, ([([], [1])] : Pairs)) := by decide

/-- Version 2 with a colon, version 3 without one, version 3 with an empty name. -/
theorem witness_StripTakesOneLeadingColon :
    strip [0x3A, 0x3A] 3 = [0x3A] ∧ strip [0x3A] 2 = [0x3A] ∧ strip [0x61, 0x3A] 3 = [0x61, 0x3A] ∧
      strip [] 3 = [] := by decide

theorem witness_InsertKeepsOrderAndTakesLastValue :
    ([1] : Bytes) ∉ ([([2], [3])] : Pairs).map Prod.fst ∧
      ([2] : Bytes) ∈ ([([2], [3])] : Pairs).map Prod.fst ∧
      (([([2], [3])] : Pairs).map Prod.fst).Nodup ∧
      insertPair [([2], [3]), ([4], [5])] [2] [6] = [([2], [6]), ([4], [5])] := by decide

theorem witness_KvStepsComputeKvParse :
    (busyKv .count kv01 0).events = [] ∧ (busyKv .count kv01 0).kvState = .count ∧
      (busyKv .count kv01 0).kvPos = 0 ∧ (busyKv .count kv01 0).kvPairs = [] ∧
      (busyKv .count kv01 0).kvW = widthOf (busyKv .count kv01 0).ver := by decide

/-- A block whose strings have the greatest and the least lengths of a small case, with distinct names
under version 2, and the same names not distinct once stripped under version 3. -/
theorem witness_LaidOutBlockParsesToItsPairs :
    kvFits 2 [([0x3A], [1]), ([], [])] = true ∧
      ((([([0x3A], [1]), ([], [])] : Pairs).map (fun p => strip p.1 2)).Nodup) ∧
      kvFits 3 [([0x3A], [1]), ([], [])] = true ∧
      kvParse (kvBlock 3 [([0x3A], [1]), ([], [])] ++ [0xDE]) 3 = some [([], [])] := by decide

theorem witness_TrailingBytesAreIgnored :
    kvParse [0, 0] 2 = some [] ∧ kvParse ([0, 0] ++ [0xFF]) 2 = some [] := by decide

theorem witness_ParseDeliversAtMostCountPairs :
    kvParse [0, 2, 0, 1, 0x61, 0, 0, 0, 1, 0x61, 0, 1, 0x62] 2 = some [([0x61], [0x62])] := by decide

theorem witness_Version3BlockReadAsVersion2IsEmpty :
    4 ≤ ([0, 0, 0xFF, 0xFF] : Bytes).length ∧ be [0, 0, 0xFF, 0xFF] 0 4 < 65536 ∧
      kvParse [0, 0, 0xFF, 0xFF] 2 = some [] := by decide

/-- A next state from FATAL and from ERROR, with and without the caller. -/
theorem witness_ErrorPhasesAreLeftOnlyByTheCaller :
    field State.phase (step (withEvent .reset (pinned3 .fatal 0))) = some .hdr ∧
      field State.phase (step (withEvent .advance (pinned3 .fatal 0))) = some .fatal ∧
      field State.phase (step (withEvent .resume (pinned3 .error 0))) = some .hdr ∧
      field State.phase (step (withEvent .reset (pinned3 .error 0))) = some .hdr ∧
      field State.phase (step (withEvent (.supply [1]) (pinned3 .error 0))) = some .error := by decide

theorem witness_ErrorsDoNotNest :
    field State.outputs (step (withEvent (.supply [1]) (pinned3 .error 0))) = some [] ∧
      field State.outputs (step (withEvent (.supply [1]) (pinned3 .fatal 0))) = some [] := by decide

/-- A step with a version pinned, one that pins, and one that does not. -/
theorem witness_PinnedVersionIsImmutable :
    field State.verValid (step (withEvent (.supply (encode (.noop 3 0 0))) (pinned3 .hdr 8))) =
        some true ∧
      field State.ver (step (withEvent (.supply (encode (.noop 2 0 0))) State.reset)) = some 2 ∧
      field State.verValid (step (withEvent (.supply (encode (.data 1 0 0))) State.reset)) =
        some false := by decide

theorem witness_EachFrameEndsExactlyOnce :
    field framesEnded (step (inBody 0x8003000500000000 (.supply []))) = some 1 ∧
      field framesEnded (step (withEvent (.bodyErr .frameTruncated) (pinned3 .busy 0))) = some 1 ∧
      field framesEnded (step (withEvent .resume (pinned3 .error 0))) = some 0 := by decide

theorem witness_OneDecompressionRequestPerKvStart :
    field requestCount (step (withEvent (.kvStart [1]) (pinned3 .busy 0))) = some 1 ∧
      field requestCount (step (withEvent .resume (pinned3 .error 0))) = some 0 := by decide

/-- Reset meets the invariant: the premise of the invariant statements. -/
theorem reset_inv : BlockInv State.reset where
  need_hdr := by decide
  need_body := by decide
  need_idle := by decide
  ver_supported := by decide
  ver_unset := by decide
  kv_in_busy := by decide
  busy_class := by decide
  busy_body := by decide
  control_pinned := by decide
  kv_pinned := by decide
  kv_width := by decide
  kv_pos := by decide
  kv_rem := by decide
  kv_rem_width := by decide
  pairs_distinct := by decide
  err_fatal := by decide
  err_error := by decide
  sizes := Laws.memory_wf_reset

/-- So does a BUSY state with a SYN_REPLY in flight whose KV unit is at the count field, whatever comes
next. -/
theorem count_inv (e : Event) : BlockInv (withEvent e (busyKv .count [] 0)) where
  need_hdr := fun _ => by simp_all [withEvent, busyKv, pinned3]
  need_body := fun _ => by simp_all [withEvent, busyKv, pinned3]
  need_idle := fun _ => rfl
  ver_supported := fun _ => .inr rfl
  ver_unset := fun _ => by simp_all [withEvent, busyKv, pinned3]
  kv_in_busy := fun _ => rfl
  busy_class := fun _ => by show headerDispatches 0x8003000200000000 = true; decide
  busy_body := fun _ => by
    show ([] : Bytes).length = (hdrDecode 0x8003000200000000).length.toNat; decide
  control_pinned := fun _ _ => rfl
  kv_pinned := fun _ => rfl
  kv_width := fun _ => by show KvWidth.four = widthOf 3; decide
  kv_pos := fun _ => Nat.le_refl 0
  kv_rem := fun _ => by simp_all [withEvent, busyKv, inPair]
  kv_rem_width := fun _ => by simp_all [withEvent, busyKv, inPair]
  pairs_distinct := List.nodup_nil
  err_fatal := fun _ => by simp_all [withEvent, busyKv, pinned3]
  err_error := fun _ => by simp_all [withEvent, busyKv, pinned3]
  sizes := Laws.memory_wf_congr Laws.memory_wf_reset rfl rfl

/-- In such a state: a SUPPLY waits, a `withdraw` is taken, a RESUME is refused. -/
theorem witness_ReadStatesTakeNoOtherTransaction :
    BlockInv (withEvent (.supply [1]) (busyKv .count [] 0)) ∧
      BlockInv (withEvent .withdraw (busyKv .count [] 0)) ∧
      BlockInv (withEvent .resume (busyKv .count [] 0)) ∧
      kvReading (busyKv .count [] 0).kvState = true ∧
      field State.supplyPort (step (withEvent (.supply [1]) (busyKv .count [] 0))) = some [[1]] ∧
      field State.supplyPort (step (withEvent .withdraw (busyKv .count [] 0))) = some [] ∧
      refusal (step (withEvent .resume (busyKv .count [] 0))) = some .resumeOutsideError :=
  ⟨count_inv _, count_inv _, count_inv _, by decide, by decide, by decide, by decide⟩

/-- A transaction that is taken and one that is refused, in states of the invariant. -/
theorem witness_TransactionsAreAcceptedByTheirPortsRule :
    BlockInv (withEvent (.supply [1]) (busyKv .count [] 0)) ∧
      accepted (.supply [1]) (withEvent (.supply [1]) (busyKv .count [] 0)) = true ∧
      BlockInv (withEvent (.decompErr []) (busyKv .count [] 0)) ∧
      accepted (.decompErr []) (withEvent (.decompErr []) (busyKv .count [] 0)) = false :=
  ⟨count_inv _, by decide, count_inv _, by decide⟩

theorem witness_EveryStepKeepsTheInvariant :
    BlockInv State.reset ∧ field State.phase (step State.reset) = some .hdr ∧
      BlockInv (withEvent .advance (busyKv .count [] 0)) ∧
      field State.kvState (step (withEvent .advance (busyKv .count [] 0))) = some .idle :=
  ⟨reset_inv, by decide, count_inv _, by decide⟩

theorem pairsFit_value : PairsFit { busyKv .value kv01 17 with kvName := colonHost, kvVlen := 7 } where
  empty := by decide
  reading := by decide
  stored := by decide

theorem witness_EveryStepKeepsThePairStoreBounded :
    PairsFit { busyKv .value kv01 17 with kvName := colonHost, kvVlen := 7 } ∧
      field State.kvPairs (step { busyKv .value kv01 17 with kvName := colonHost, kvVlen := 7 }) =
        some [(host, exampleText)] :=
  ⟨pairsFit_value, by decide⟩

/-- Two different states that agree: the ten registers that no rule reads in HDR differ. -/
theorem witness_UnreadRegistersHaveNoEffect :
    Agree State.reset { State.reset with
        hdrReg := 1, bodyBuf := [1], kvW := .four, kvBuf := [1], kvPos := 1, kvRem := 1, kvNlen := 1
        kvVlen := 1, kvName := [1], kvPairs := [([1], [1])] } := by
  constructor <;> decide

/-- The three classes of the first frame statement, each in HDR and in BODY. -/
theorem witness_SelfHandledClassesFrame :
    field State.phase (exec (.data 1 0 0) State.reset) = some .body ∧
      field State.phase (exec (.noop 3 0 0) State.reset) = some .body ∧
      field State.phase (exec (.unknown 3 0 0 0) State.reset) = some .body ∧
      field State.phase (exec (.data 1 0 0) (waiting [] (pinned3 .body 0))) = some .hdr ∧
      field State.phase (exec (.noop 3 0 0) (waiting [] (pinned3 .body 0))) = some .hdr ∧
      field State.phase (exec (.unknown 3 0 0 0) (waiting [] (pinned3 .body 0))) = some .hdr := by decide

/-- The nine classes of the second frame statement, each in HDR and in BODY. -/
theorem witness_DispatchedClassesFrame :
    [Instr.synStream 3 0 0, .synReply 3 0 0, .rstStream 3 0 0, .settings 3 0 0, .ping 3 0 0,
        .goaway 3 0 0, .headers 3 0 0, .windowUpdate 3 0 0, .xForwarded 3 0 0].all
      (fun i => field State.phase (exec i State.reset) == some .body &&
        field State.phase (exec i (waiting [] (pinned3 .body 0))) == some .busy) = true := by decide

/-- A PING in flight whose body has been dispatched. -/
def pingBusy : State :=
  { pinned3 .busy 0 with
    hdrReg := 0x8003000600000004, bodyBuf := [0, 0, 0, 42]
    outputs := [.dispatch .ping (record3 6 4) [0, 0, 0, 42] (some 3)] }

theorem pingBusy_inv : BlockInv pingBusy where
  need_hdr := by decide
  need_body := by decide
  need_idle := by decide
  ver_supported := by decide
  ver_unset := by decide
  kv_in_busy := by decide
  busy_class := by decide
  busy_body := by decide
  control_pinned := by decide
  kv_pinned := by decide
  kv_width := by decide
  kv_pos := by decide
  kv_rem := by decide
  kv_rem_width := by decide
  pairs_distinct := by decide
  err_fatal := by decide
  err_error := by decide
  sizes := (Laws.memory_wf_iff _).2 ⟨by decide, Laws.fitsKvBuf_zero _⟩

theorem witness_ReferenceDecoderMovesAreAccepted :
    BlockInv pingBusy ∧ contractMove pingBusy = some (.done (.ping 42)) ∧
      seen (step (presentMove pingBusy)) =
        some (0x00000308, 0x01000008,
          [.dispatch .ping (record3 6 4) [0, 0, 0, 42] (some 3), .emit (.ping 42)]) :=
  ⟨pingBusy_inv, by decide, by decide⟩

/-- A body of exactly each clause's minimum length. -/
theorem witness_ReferenceDecoderReadsFixedFields :
    8 ≤ ([0, 0, 0, 7, 0, 0, 0, 5] : Bytes).length ∧ 4 ≤ ([0, 0, 0, 42] : Bytes).length ∧
      4 + be [0, 0, 0, 1, 0x61] 0 4 ≤ ([0, 0, 0, 1, 0x61] : Bytes).length ∧
      4 + be [0, 0, 0, 0] 0 4 ≤ ([0, 0, 0, 0] : Bytes).length := by decide

/-- A block with "path" and "url", one with "url" alone, an empty one; bodies of 4 bytes, which gives
SYN_REPLY and HEADERS frames and no more, and of 10. -/
theorem witness_ReferenceDecoderBuildsKvFrames :
    (([(nameUrl, [2]), (namePath, [1])] : Pairs).map Prod.fst).Nodup ∧
      (([0x70, 0x61, 0x74, 0x68] : Bytes), ([1] : Bytes)) ∈ ([(nameUrl, [2]), (namePath, [1])] : Pairs) ∧
      ([0x70, 0x61, 0x74, 0x68] : Bytes) ∉ ([(nameUrl, [2])] : Pairs).map Prod.fst ∧
      (([0x75, 0x72, 0x6C] : Bytes), ([2] : Bytes)) ∈ ([(nameUrl, [2])] : Pairs) ∧
      ([0x75, 0x72, 0x6C] : Bytes) ∉ ([] : Pairs).map Prod.fst ∧
      (4 ≤ ([0, 0, 0, 9] : Bytes).length ∧ ¬ 10 ≤ ([0, 0, 0, 9] : Bytes).length) ∧
      finishKv Config.requireRequestLine .headers 0 [0, 0, 0, 9] [] = some (.done (.headers 9 [])) ∧
      10 ≤ (List.replicate 10 (0 : Byte)).length := by decide

/-- Two entries of one id, of which the last is kept, in a body of exactly 4 + 8*count bytes; the word of
R215's example under both versions, in a body that ends with its entry; and a count of 0. -/
theorem witness_SettingsKeepTheLastEntryOfAnId :
    settingsMap 3 [0, 0, 0, 2, 0, 0, 0, 7, 0, 0, 0, 1, 0, 0, 0, 7, 0, 0, 0, 2] 2 =
        [(7, { value := 2, persist := false, persisted := false })] ∧
      4 + 8 * be [0, 0, 0, 1, 4, 0, 0, 1, 0, 0, 3, 0xE8] 0 4 ≤
        ([0, 0, 0, 1, 4, 0, 0, 1, 0, 0, 3, 0xE8] : Bytes).length ∧
      settingWord 2 [0, 0, 0, 1, 4, 0, 0, 1, 0, 0, 3, 0xE8] 0 = 0x01000004 ∧
      settingWord 3 [0, 0, 0, 1, 4, 0, 0, 1, 0, 0, 3, 0xE8] 0 = 0x04000001 ∧
      4 ≤ ([0, 0, 0, 0] : Bytes).length ∧ 4 + 8 * be [0, 0, 0, 0] 0 4 ≤ ([0, 0, 0, 0] : Bytes).length := by
  decide

/-- After reset, a PING header of version 3 and its body still to come. -/
def pingStart : State :=
  { State.reset with events := [.supply (encode (.ping 3 0 4)), .supply [0, 0, 0, 42]] }

theorem witness_PingIsDecodedEndToEnd :
    pingStart.phase = .hdr ∧ pingStart.need = 8 ∧ pingStart.kvState = .idle ∧
      pingStart.supplyPort = [] ∧ versionPasses (.ping 3 0 4) pingStart ∧
      ([0, 0, 0, 42] : Bytes).length = 4 ∧
      pingStart.events = [.supply (encode (.ping 3 0 4)), .supply [0, 0, 0, 42]] := by
  refine ⟨rfl, rfl, rfl, rfl, ?_, rfl, rfl⟩
  intro v hv; cases hv; decide

end Sys2Proof.Tests
end

section
/-! SUPPORT. No operation of the block answers a fault: the KV unit's reads alone could, and each of
them stands behind its own bounds check (R8, R69). One lemma per operation, from the reads up to a whole
transaction. -/

namespace Sys2Proof.Proofs

open Sys2Proof.Machine Sys2Proof.Laws

section
variable (s : State) (r : Fault)

/-! ### The KV unit -/

theorem readPrefix_ne_fault (k : BitVec 32 → State → State) : readPrefix k s ≠ .fault r := by
  rw [readPrefix_eq]; split <;> nofun

theorem readString_ne_fault (n : Nat) (k : Bytes → State → State) : readString n k s ≠ .fault r := by
  rw [readString_eq]; split <;> nofun

/-- Each read state of the KV unit makes one guarded read (R174 to R178). -/
theorem kvStep_ne_fault : kvStep s ≠ .fault r := by
  unfold kvStep
  cases s.kvState with
  | idle | decomp => nofun
  | count | nlen | vlen => exact readPrefix_ne_fault s r _
  | name | value => exact readString_ne_fault s r _ _

/-! ### The supply port -/

theorem takeBody_ne_fault (body : Bytes → State → State) : takeBody body s ≠ .fault r := by
  unfold takeBody
  split
  · nofun
  · split <;> nofun

theorem exec_ne_fault (i : Instr) : exec i s ≠ .fault r := by
  rw [exec_eq_runHeader, runHeader]
  cases s.phase with
  | body => exact takeBody_ne_fault s r _
  | hdr | busy | error | fatal => nofun

theorem fetchHeader_ne_fault : fetchHeader s ≠ .fault r := by
  unfold fetchHeader
  split
  · nofun
  · split
    · split
      · exact exec_ne_fault _ r _
      · nofun
    · nofun

theorem acceptSupply_ne_fault : acceptSupply s ≠ .fault r := by
  unfold acceptSupply
  cases s.phase with
  | hdr => exact fetchHeader_ne_fault s r
  | body => exact exec_ne_fault s r _
  | busy | error | fatal => nofun

theorem advance_ne_fault : advance s ≠ .fault r := by
  unfold advance
  split
  · exact kvStep_ne_fault s r
  · exact acceptSupply_ne_fault s r

/-! ### The hosts' answers -/

theorem bodyDone_ne_fault (f : Frame) : bodyDone f s ≠ .fault r := by
  unfold bodyDone; split <;> nofun

theorem bodyErr_ne_fault (e : BodyErr) : bodyErr e s ≠ .fault r := by
  unfold bodyErr; split <;> nofun

theorem kvStart_ne_fault (c : Bytes) : kvStart c s ≠ .fault r := by
  unfold kvStart; split <;> nofun

theorem decompOk_ne_fault (max : Option Nat) (d : Bytes) : decompOk max d s ≠ .fault r := by
  unfold decompOk
  split
  · split <;> nofun
  · nofun

theorem decompErr_ne_fault (p : Bytes) : decompErr p s ≠ .fault r := by
  unfold decompErr; split <;> nofun

theorem resume_ne_fault : resume s ≠ .fault r := by
  unfold resume; split <;> nofun

/-! ### A whole transaction -/

theorem takeEvent_ne_fault (e : Event) : takeEvent e s ≠ .fault r := by
  cases e with
  | supply b => exact acceptSupply_ne_fault _ r
  | bodyDone f => exact bodyDone_ne_fault s r f
  | bodyErr e => exact bodyErr_ne_fault s r e
  | kvStart c => exact kvStart_ne_fault s r c
  | decompOk d => exact decompOk_ne_fault s r _ d
  | decompErr p => exact decompErr_ne_fault s r p
  | resume => exact resume_ne_fault s r
  | advance => exact advance_ne_fault s r
  | reset | withdraw => nofun

end

/-- Settles O41: a step is the block's own or the next transaction, and neither faults. -/
theorem noStepFaults : Obligations.NoStepFaults := by
  intro s r
  unfold step nextStep
  split
  · exact advance_ne_fault s r
  · exact takeEvent_ne_fault _ r _

end Sys2Proof.Proofs
end

section
/-! SUPPORT. Two states that agree on what a rule can still read (10_state.md R25 to R35) stay so under
every operation of the block: one lemma per operation, from the record updates up to a transaction. -/

namespace Sys2Proof.Proofs

open Sys2Proof.Machine Sys2Proof.Laws Sys2Proof.Safety

theorem agree_refl (s : State) : Agree s s := by
  constructor <;> intros <;> rfl

/-- Two tests that come out alike, with branches that agree. -/
theorem agreeOutcome_ite {p q : Prop} [Decidable p] [Decidable q] {a b a' b' : Result}
    (hpq : p ↔ q) (hpos : p → AgreeOutcome a a') (hneg : ¬p → AgreeOutcome b b') :
    AgreeOutcome (if p then a else b) (if q then a' else b') := by
  by_cases hp : p
  · rw [if_pos hp, if_pos (hpq.1 hp)]; exact hpos hp
  · rw [if_neg hp, if_neg (fun hq => hp (hpq.2 hq))]; exact hneg hp

theorem ne_idle_of_kvReading {k : KvState} (h : kvReading k = true) : k ≠ .idle := by
  rintro rfl; cases h

section
variable {s t : State} (h : Agree s t)
include h

/-! ### The record updates -/

theorem agree_supplyPort (port : List Bytes) :
    Agree { s with supplyPort := port } { t with supplyPort := port } :=
  { h with supplyPort := rfl }

theorem agree_events (events : List Event) :
    Agree { s with events := events } { t with events := events } :=
  { h with events := rfl }

theorem agree_signal (o : Output) : Agree (signal o s) (signal o t) :=
  { h with outputs := congrArg (· ++ [o]) h.outputs }

/-- In HDR nothing of the last frame is read any more. -/
theorem agree_awaitHeader : Agree (awaitHeader s) (awaitHeader t) :=
  { h with phase := rfl, need := rfl, hdrReg := by simp, bodyBuf := nofun }

theorem agree_completeFrame (f : Frame) : Agree (completeFrame f s) (completeFrame f t) :=
  agree_awaitHeader (agree_signal h _)

theorem agree_raise (e : Err) : Agree (raise e s) (raise e t) :=
  { agree_signal h (.fail e) with
    phase := rfl, need := rfl, err := rfl
    hdrReg := by cases e <;> simp [errPhase]
    bodyBuf := by cases e <;> nofun }

theorem agree_resetOp : Agree (resetOp s) (resetOp t) :=
  { agree_refl State.reset with
    supplyPort := h.supplyPort, events := h.events, outputs := h.outputs }

/-- With the KV unit idle again its registers are not read before a KV_START writes them. -/
theorem agree_kvIdle (p q : Pairs) :
    Agree { s with kvPairs := p, kvState := .idle } { t with kvPairs := q, kvState := .idle } :=
  { h with
    kvState := rfl
    kvW := by simp
    kvPairs := by simp
    kvBuf := nofun, kvPos := nofun, kvRem := nofun, kvNlen := nofun
    kvName := by simp
    kvVlen := nofun }

/-! ### The header phase -/

theorem versionCheckOk_congr (r : Bool) (v : BitVec 15) :
    versionCheckOk r v s = versionCheckOk r v t := by
  rw [versionCheckOk, versionCheckOk, h.verValid, h.ver]

theorem agree_pinVersion (v : BitVec 15) : Agree (pinVersion v s) (pinVersion v t) := by
  rw [pinVersion, pinVersion, h.verValid]
  split
  · exact h
  · exact { h with verValid := rfl, ver := rfl }

theorem agree_acceptHeader (i : Instr) : Agree (acceptHeader i s) (acceptHeader i t) :=
  { h with phase := rfl, need := rfl, hdrReg := fun _ => rfl, bodyBuf := nofun }

theorem agree_supplyHeader (r : Bool) (i : Instr) :
    Agree (supplyHeader r i s) (supplyHeader r i t) := by
  unfold supplyHeader
  cases i.version? with
  | none => exact agree_acceptHeader h i
  | some v =>
    simp only [versionCheckOk_congr h]
    split
    · exact agree_acceptHeader (agree_pinVersion h v) i
    · exact agree_raise h _

/-! ### The body phase -/

theorem pinnedVersion_congr : pinnedVersion s = pinnedVersion t := by
  rw [pinnedVersion, pinnedVersion, h.verValid, h.ver]

theorem agree_dispatchBody (hp : s.phase = .body) (c : BodyClass) (r : FrameHeader) (b : Bytes) :
    Agree (dispatchBody c r b s) (dispatchBody c r b t) :=
  { h with
    phase := rfl, need := rfl
    hdrReg := fun _ => h.hdrReg (.inl hp)
    bodyBuf := fun _ => rfl
    outputs := by
      rw [dispatchBody_outputs, dispatchBody_outputs, h.outputs, pinnedVersion_congr h] }

theorem agree_bodyEffect (hp : s.phase = .body) (i : Instr) (b : Bytes) :
    Agree (bodyEffect i b s) (bodyEffect i b t) := by
  cases i with
  | data | noop | unknown => exact agree_completeFrame h _
  | synStream | synReply | rstStream | settings | ping | goaway | headers | windowUpdate
  | xForwarded => exact agree_dispatchBody h hp _ _ _

theorem agree_takeBody (hp : s.phase = .body) (i : Instr) :
    AgreeOutcome (takeBody (bodyEffect i) s) (takeBody (bodyEffect i) t) := by
  unfold takeBody
  have hport := h.supplyPort
  cases hs : s.supplyPort with
  | nil => rw [← hport, hs]; exact h
  | cons b rest =>
    rw [← hport, hs]
    exact agreeOutcome_ite (by rw [h.need])
      (fun _ => agree_bodyEffect (agree_supplyPort h rest) hp i b) (fun _ => rfl)

theorem agree_exec (i : Instr) : AgreeOutcome (exec i s) (exec i t) := by
  rw [exec_eq_runHeader, exec_eq_runHeader, runHeader, runHeader, ← h.phase]
  cases hp : s.phase with
  | hdr => exact agree_supplyHeader h _ i
  | body => exact agree_takeBody h hp i
  | busy | error | fatal => exact h

/-! ### The supply port -/

theorem agree_fetchHeader : AgreeOutcome (fetchHeader s) (fetchHeader t) := by
  unfold fetchHeader
  have hport := h.supplyPort
  cases hs : s.supplyPort with
  | nil => rw [← hport, hs]; exact h
  | cons b rest =>
    rw [← hport, hs]
    refine agreeOutcome_ite (by rw [h.need]) (fun _ => ?_) (fun _ => rfl)
    cases decode b with
    | ok i => exact agree_exec (agree_supplyPort h rest) i
    | error _ => rfl

/-- HDR_REG is read in BODY only, where the states agree on it (R25). -/
theorem agree_acceptSupply : AgreeOutcome (acceptSupply s) (acceptSupply t) := by
  rw [acceptSupply, acceptSupply, ← h.phase]
  cases hp : s.phase with
  | hdr => exact agree_fetchHeader h
  | body =>
    rw [← h.hdrReg (.inl hp)]
    exact agree_exec h _
  | busy | error | fatal => exact h

/-! ### The KV unit -/

theorem agree_kvFailTruncated : Agree (kvFailTruncated s) (kvFailTruncated t) :=
  agree_kvIdle (agree_signal h _) [] []

theorem agree_kvPos (p : Nat) : Agree { s with kvPos := p } { t with kvPos := p } :=
  { h with kvPos := fun _ => rfl }

section
variable (hr : kvReading s.kvState = true)
include hr

theorem agree_readPrefix (k : BitVec 32 → State → State)
    (hk : ∀ v p, Agree (k v { s with kvPos := p }) (k v { t with kvPos := p })) :
    AgreeOutcome (readPrefix k s) (readPrefix k t) := by
  have hbuf := h.kvBuf hr
  have hpos := h.kvPos hr
  have hw := h.kvW (ne_idle_of_kvReading hr)
  have hnext : t.kvPos + widthBytes t.kvW = s.kvPos + widthBytes s.kvW := by rw [hpos, hw]
  have hval : be t.kvBuf t.kvPos (widthBytes t.kvW) = be s.kvBuf s.kvPos (widthBytes s.kvW) := by
    rw [hbuf, hpos, hw]
  rw [readPrefix_eq, readPrefix_eq]
  refine agreeOutcome_ite (by rw [hbuf, hnext]) (fun _ => agree_kvFailTruncated h) (fun _ => ?_)
  rw [hnext, hval]
  exact hk _ _

theorem agree_readString {n m : Nat} (hn : n = m) (k : Bytes → State → State)
    (hk : ∀ b p, Agree (k b { s with kvPos := p }) (k b { t with kvPos := p })) :
    AgreeOutcome (readString n k s) (readString m k t) := by
  subst hn
  have hbuf := h.kvBuf hr
  have hpos := h.kvPos hr
  have hnext : t.kvPos + n = s.kvPos + n := by rw [hpos]
  have hval : slice t.kvBuf t.kvPos n = slice s.kvBuf s.kvPos n := by rw [hbuf, hpos]
  rw [readString_eq, readString_eq]
  refine agreeOutcome_ite (by rw [hbuf, hnext]) (fun _ => agree_kvFailTruncated h) (fun _ => ?_)
  rw [hnext, hval]
  exact hk _ _

theorem agree_kvComplete : Agree (kvComplete s) (kvComplete t) := by
  rw [kvComplete, kvComplete, h.kvPairs (ne_idle_of_kvReading hr)]
  exact agree_kvIdle (agree_signal h _) _ _

/-- On to the read state `k`, for which what that state reads has been loaded alike. -/
theorem agree_kvState (k : KvState) (hrem : s.kvRem = t.kvRem)
    (hnlen : k = .name → s.kvNlen = t.kvNlen)
    (hname : k = .vlen ∨ k = .value → s.kvName = t.kvName)
    (hvlen : k = .value → s.kvVlen = t.kvVlen) :
    Agree { s with kvState := k } { t with kvState := k } :=
  { h with
    kvState := rfl
    kvW := fun _ => h.kvW (ne_idle_of_kvReading hr)
    kvPairs := fun _ => h.kvPairs (ne_idle_of_kvReading hr)
    kvBuf := fun _ => h.kvBuf hr
    kvPos := fun _ => h.kvPos hr
    kvRem := fun _ => hrem
    kvNlen := hnlen, kvName := hname, kvVlen := hvlen }

theorem agree_nextPair (hrem : s.kvRem = t.kvRem) : Agree (nextPair s) (nextPair t) := by
  by_cases hz : s.kvRem = 0
  · rw [nextPair, nextPair, if_pos hz, if_pos (hrem ▸ hz)]
    exact agree_kvComplete h hr
  · rw [nextPair, nextPair, if_neg hz, if_neg (hrem ▸ hz)]
    exact agree_kvState h hr .nlen hrem nofun nofun nofun

end

/-! ### The five read steps -/

theorem agree_kvCount (hk : s.kvState = .count) : AgreeOutcome (kvCount s) (kvCount t) := by
  have hr : kvReading s.kvState = true := by rw [hk]; rfl
  refine agree_readPrefix h hr _ fun v p => agree_nextPair ?_ hr rfl
  exact { agree_kvPos h p with kvRem := fun _ => rfl }

theorem agree_kvReadNlen (hk : s.kvState = .nlen) :
    AgreeOutcome (kvReadNlen s) (kvReadNlen t) := by
  have hr : kvReading s.kvState = true := by rw [hk]; rfl
  have hrem := h.kvRem (by rw [hk]; rfl)
  refine agree_readPrefix h hr _ fun v p =>
    agree_kvState (s := { s with kvPos := p, kvNlen := v }) (t := { t with kvPos := p, kvNlen := v })
      ?_ hr .name hrem (fun _ => rfl) nofun nofun
  exact { agree_kvPos h p with kvNlen := fun _ => rfl }

theorem agree_kvReadName (hk : s.kvState = .name) :
    AgreeOutcome (kvReadName s) (kvReadName t) := by
  have hr : kvReading s.kvState = true := by rw [hk]; rfl
  have hrem := h.kvRem (by rw [hk]; rfl)
  refine agree_readString h hr (by rw [h.kvNlen hk]) _ fun b p =>
    agree_kvState (s := { s with kvPos := p, kvName := b }) (t := { t with kvPos := p, kvName := b })
      ?_ hr .vlen hrem nofun (fun _ => rfl) nofun
  exact { agree_kvPos h p with kvName := fun _ => rfl }

theorem agree_kvReadVlen (hk : s.kvState = .vlen) :
    AgreeOutcome (kvReadVlen s) (kvReadVlen t) := by
  have hr : kvReading s.kvState = true := by rw [hk]; rfl
  have hrem := h.kvRem (by rw [hk]; rfl)
  refine agree_readPrefix h hr _ fun v p =>
    agree_kvState (s := { s with kvPos := p, kvVlen := v }) (t := { t with kvPos := p, kvVlen := v })
      ?_ hr .value hrem nofun (fun _ => h.kvName (.inl hk)) (fun _ => rfl)
  exact { agree_kvPos h p with kvVlen := fun _ => rfl }

theorem agree_kvReadValue (hk : s.kvState = .value) :
    AgreeOutcome (kvReadValue s) (kvReadValue t) := by
  have hr : kvReading s.kvState = true := by rw [hk]; rfl
  have hrem : s.kvRem - 1 = t.kvRem - 1 := by rw [h.kvRem (by rw [hk]; rfl)]
  have hins (b : Bytes) : insertPair s.kvPairs (strip s.kvName s.ver) b =
      insertPair t.kvPairs (strip t.kvName t.ver) b := by
    rw [h.kvPairs (ne_idle_of_kvReading hr), h.kvName (.inr hk), h.ver]
  refine agree_readString h hr (by rw [h.kvVlen hk]) _ fun b p => agree_nextPair ?_ hr hrem
  exact { agree_kvPos h p with kvPairs := fun _ => hins b, kvRem := fun _ => hrem }

theorem agree_kvStep : AgreeOutcome (kvStep s) (kvStep t) := by
  rw [kvStep, kvStep, ← h.kvState]
  cases hk : s.kvState with
  | idle | decomp => exact h
  | count => exact agree_kvCount h hk
  | nlen => exact agree_kvReadNlen h hk
  | name => exact agree_kvReadName h hk
  | vlen => exact agree_kvReadVlen h hk
  | value => exact agree_kvReadValue h hk

/-! ### The hosts' transactions -/

theorem awaitsBodyAnswer_congr : awaitsBodyAnswer s = awaitsBodyAnswer t := by
  rw [awaitsBodyAnswer, awaitsBodyAnswer, h.phase, h.kvState]

theorem agree_bodyDone (f : Frame) : AgreeOutcome (bodyDone f s) (bodyDone f t) :=
  agreeOutcome_ite (by rw [awaitsBodyAnswer_congr h]) (fun _ => agree_completeFrame h f)
    (fun _ => rfl)

theorem agree_bodyErr (e : BodyErr) : AgreeOutcome (bodyErr e s) (bodyErr e t) :=
  agreeOutcome_ite (by rw [awaitsBodyAnswer_congr h]) (fun _ => agree_raise h _) (fun _ => rfl)

/-- KV_START writes KV_W and KV_PAIRS, all that a block waiting for its buffer reads (R171). -/
theorem agree_kvStart (c : Bytes) : AgreeOutcome (kvStart c s) (kvStart c t) := by
  refine agreeOutcome_ite (by rw [h.phase, h.kvState, h.verValid]) (fun _ => ?_) (fun _ => rfl)
  rw [h.ver]
  exact { agree_signal h (.decompReq c t.ver) with
    kvState := rfl
    kvW := fun _ => rfl
    kvPairs := fun _ => rfl
    kvBuf := nofun, kvPos := nofun, kvRem := nofun, kvNlen := nofun
    kvName := by simp
    kvVlen := nofun }

theorem agree_decompOk (max : Option Nat) (d : Bytes) :
    AgreeOutcome (decompOk max d s) (decompOk max d t) := by
  refine agreeOutcome_ite (by rw [h.kvState]) (fun hk => ?_) (fun _ => rfl)
  have hne : s.kvState ≠ .idle := by rw [hk]; nofun
  refine agreeOutcome_ite Iff.rfl (fun _ => ?_) (fun _ => agree_kvIdle (agree_signal h _) _ _)
  exact { h with
    kvState := rfl
    kvW := fun _ => h.kvW hne
    kvPairs := fun _ => h.kvPairs hne
    kvBuf := fun _ => rfl
    kvPos := fun _ => rfl
    kvRem := nofun, kvNlen := nofun
    kvName := by simp
    kvVlen := nofun }

theorem agree_decompErr (p : Bytes) : AgreeOutcome (decompErr p s) (decompErr p t) :=
  agreeOutcome_ite (by rw [h.kvState]) (fun _ => agree_kvIdle (agree_signal h _) [] [])
    (fun _ => rfl)

theorem agree_resume : AgreeOutcome (resume s) (resume t) := by
  rw [resume, resume, ← h.phase]
  cases s.phase with
  | error => exact agree_awaitHeader h
  | hdr | body | busy | fatal => rfl

theorem agree_advance : AgreeOutcome (advance s) (advance t) :=
  agreeOutcome_ite (by rw [h.kvState]) (fun _ => agree_kvStep h) (fun _ => agree_acceptSupply h)

theorem agree_takeEvent (e : Event) : AgreeOutcome (takeEvent e s) (takeEvent e t) := by
  cases e with
  | supply b =>
    exact agree_acceptSupply { h with supplyPort := congrArg (· ++ [b]) h.supplyPort }
  | bodyDone f => exact agree_bodyDone h f
  | bodyErr e => exact agree_bodyErr h e
  | kvStart c => exact agree_kvStart h c
  | decompOk d => exact agree_decompOk h _ d
  | decompErr p => exact agree_decompErr h p
  | resume => exact agree_resume h
  | reset => exact agree_resetOp h
  | advance => exact agree_advance h
  | withdraw => exact { h with supplyPort := congrArg List.tail h.supplyPort }

end

/-- Settles O51: the step is the block's own or the next transaction, and each keeps the agreement. -/
theorem unreadRegistersHaveNoEffect : Obligations.UnreadRegistersHaveNoEffect := by
  intro s t h
  rw [step, step, nextStep, nextStep, ← h.events]
  cases s.events with
  | nil => exact agree_advance h
  | cons e rest => exact agree_takeEvent (agree_events h rest) e

end Sys2Proof.Proofs
end

section
/-! SUPPORT. The invariant of 10_state.md R39 under every operation of the block: one lemma per
operation, then one for the KV unit's read steps and one for a whole step. -/

namespace Sys2Proof.Proofs

open Sys2Proof.Machine Sys2Proof.Laws Sys2Proof.Safety

/-! ### Words, fields and the pair store -/

/-- The type code that a selector stands for; UNKNOWN stands for no one code (R87, R210). -/
def selType : Sel → Option (BitVec 16)
  | .decoder .synStream => some 0x0001
  | .decoder .synReply => some 0x0002
  | .decoder .rstStream => some 0x0003
  | .decoder .settings => some 0x0004
  | .noop => some 0x0005
  | .decoder .ping => some 0x0006
  | .decoder .goaway => some 0x0007
  | .decoder .headers => some 0x0008
  | .decoder .windowUpdate => some 0x0009
  | .decoder .xForwarded => some 0xF000
  | .unknown => none

theorem selType_sel (type : BitVec 16) :
    selType (sel type) = none ∨ selType (sel type) = some type := by
  unfold sel
  iterate 10
    refine iteInduction (motive := fun c => selType c = none ∨ selType c = some type)
      (fun h => .inr (congrArg some h.symm)) fun _ => ?_
  exact .inl rfl

theorem type_eq_of_sel {type code : BitVec 16} {c : Sel} (hs : sel type = c)
    (hc : selType c = some code) : type = code := by
  rcases selType_sel type with h | h <;> rw [hs, hc] at h
  · cases h
  · exact (Option.some.inj h).symm

/-- Decoding a word keeps all of it (R119). -/
theorem encodeWord_decodeWord (w : BitVec 64) : encodeWord (decodeWord w) = w := by
  cases hc : controlField w with
  | false => rw [decodeWord, classOf, hc]; exact dataWord_of_fields w hc
  | true =>
    refine Eq.trans ?_ (controlWord_of_fields w hc)
    rw [decodeWord, classOf, if_pos hc]
    cases hs : sel (typeField w) with
    | unknown => rfl
    | noop => rw [type_eq_of_sel hs rfl]; rfl
    | decoder c => cases c <;> rw [type_eq_of_sel hs rfl] <;> rfl

theorem kvReading_of_inPair {k : KvState} (h : inPair k = true) : kvReading k = true := by
  revert h; cases k <;> decide

/-- A field of n bytes is below 256^n in the 32-bit register that takes it too (R8, R32). -/
theorem fieldValue_toNat_lt (b : Bytes) (off n : Nat) :
    (BitVec.ofNat 32 (be b off n)).toNat < 256 ^ n := by
  rw [BitVec.toNat_ofNat]
  exact (Nat.mod_le _ _).trans_lt (be_lt b off n)

theorem toNat_sub_one_lt {r : BitVec 32} (hr : r ≠ 0) : (r - 1).toNat < r.toNat := by
  bv_omega

theorem insertPair_nodup (pairs : Pairs) (name value : Bytes) (hd : (pairs.map Prod.fst).Nodup) :
    ((insertPair pairs name value).map Prod.fst).Nodup := by
  rw [insertPair_names]
  split
  · exact hd
  · simpa using hd.concat ‹_›

/-! ### Reset -/

theorem inv_reset : BlockInv State.reset where
  need_hdr _ := rfl
  need_body := nofun
  need_idle := by simp [State.reset]
  ver_supported := nofun
  ver_unset _ := rfl
  kv_in_busy h := absurd rfl h
  busy_class := nofun
  busy_body := nofun
  control_pinned := by simp [State.reset]
  kv_pinned h := absurd rfl h
  kv_width h := absurd rfl h
  kv_pos := nofun
  kv_rem := nofun
  kv_rem_width := nofun
  pairs_distinct := List.nodup_nil
  err_fatal := nofun
  err_error := nofun
  sizes := memory_wf_reset

/-- RESET leaves the registers as at power-on (R281). -/
theorem inv_resetOp (s : State) : BlockInv (resetOp s) := { inv_reset with }

section
variable {s : State} (h : BlockInv s)
include h

theorem kvIdle_of_not_busy (hp : s.phase ≠ .busy) : s.kvState = .idle :=
  not_not.1 fun hk => hp (h.kv_in_busy hk)

/-! ### The ports and the outputs -/

theorem inv_ports (port : List Bytes) (events : List Event) :
    BlockInv { s with supplyPort := port, events := events } := { h with }

theorem inv_signal (o : Output) : BlockInv (signal o s) := { h with }

/-! ### The frame controller -/

theorem inv_awaitHeader (hk : s.kvState = .idle) : BlockInv (awaitHeader s) :=
  { h with
    need_hdr := fun _ => rfl
    need_body := nofun
    need_idle := by simp
    kv_in_busy := fun hne => absurd hk hne
    busy_class := nofun
    busy_body := nofun
    control_pinned := by simp
    err_fatal := nofun
    err_error := nofun }

theorem inv_completeFrame (f : Frame) (hk : s.kvState = .idle) : BlockInv (completeFrame f s) :=
  inv_awaitHeader (inv_signal h _) hk

theorem inv_raise (e : Err) (hk : s.kvState = .idle) : BlockInv (raise e s) :=
  { h with
    need_hdr := by cases e <;> nofun
    need_body := by cases e <;> nofun
    need_idle := fun _ => rfl
    kv_in_busy := fun hne => absurd hk hne
    busy_class := by cases e <;> nofun
    busy_body := by cases e <;> nofun
    control_pinned := by cases e <;> simp [errPhase]
    err_fatal := by cases e <;> simp [errPhase, errCode]
    err_error := by cases e <;> simp [errPhase, errCode] }

theorem inv_pinVersion (v : BitVec 15) (hv : s.verValid = false → v = 2 ∨ v = 3)
    (hk : s.kvState = .idle) : BlockInv (pinVersion v s) := by
  unfold pinVersion
  split
  · exact h
  · rename_i hunset
    exact { h with
      ver_supported := fun _ => hv (Bool.eq_false_iff.2 hunset)
      ver_unset := nofun
      control_pinned := fun _ _ => rfl
      kv_pinned := fun _ => rfl
      kv_width := fun hne => absurd hk hne }

/-- A header in flight asks for its own length; a control header has pinned a version (R131). -/
theorem inv_acceptHeader (i : Instr) (hk : s.kvState = .idle)
    (hv : controlField (encodeWord i) = true → s.verValid = true) : BlockInv (acceptHeader i s) :=
  { h with
    need_hdr := nofun
    need_body := fun _ => by
      rw [acceptHeader_need, acceptHeader_hdrReg, hdrDecode_length, lengthField_encodeWord]
    need_idle := by simp
    kv_in_busy := fun hne => absurd hk hne
    busy_class := nofun
    busy_body := nofun
    control_pinned := fun _ => by rw [hdrDecode_control]; exact hv
    err_fatal := nofun
    err_error := nofun }

theorem inv_supplyHeader (i : Instr) (hk : s.kvState = .idle) :
    BlockInv (supplyHeader true i s) := by
  rcases supplyHeader_cases true i s with ⟨hi, heq⟩ | ⟨v, -, hv, heq⟩ | ⟨v, -, -, heq⟩ <;> rw [heq]
  · refine inv_acceptHeader h i hk fun hc => ?_
    rw [version?_eq, if_pos hc] at hi
    cases hi
  · have hpass := (versionCheckOk_true_iff v s).1 hv
    exact inv_acceptHeader (inv_pinVersion h v hpass.1 hk) i (by simpa using hk) (by simp)
  · exact inv_raise h _ hk

/-- The body of a dispatched header, of NEED bytes, is what BODY_BUF holds in BUSY (R26, R136). -/
theorem inv_dispatchBody (c : BodyClass) (r : FrameHeader) (b : Bytes) (hp : s.phase = .body)
    (hl : b.length = s.need.toNat) (hd : headerDispatches s.hdrReg = true) :
    BlockInv (dispatchBody c r b s) :=
  { h with
    need_hdr := nofun
    need_body := nofun
    need_idle := fun _ => rfl
    kv_in_busy := fun _ => rfl
    busy_class := fun _ => hd
    busy_body := fun _ => by
      rw [dispatchBody_bodyBuf, dispatchBody_hdrReg, hl, h.need_body hp]
    control_pinned := fun _ => h.control_pinned (.inl hp)
    err_fatal := nofun
    err_error := nofun
    sizes := memory_wf_dispatchBody c r b s s.need hl h.sizes }

theorem inv_bodyEffect (b : Bytes) (hp : s.phase = .body) (hl : b.length = s.need.toNat) :
    BlockInv (bodyEffect (decodeWord s.hdrReg) b s) := by
  have hk : s.kvState = .idle := kvIdle_of_not_busy h (by rw [hp]; nofun)
  rcases bodyEffect_cases (decodeWord s.hdrReg) b s with ⟨f, heq⟩ | ⟨c, heq, hclass⟩ <;> rw [heq]
  · exact inv_completeFrame h f hk
  · rw [encodeWord_decodeWord] at hclass
    exact inv_dispatchBody h c _ b hp hl (by rw [headerDispatches, hclass])

/-! ### The KV unit -/

/-- The block in progress is over, whatever has become of the registers it read with. -/
theorem inv_kvIdle (p : Nat) (r : BitVec 32) (pairs : Pairs) (hd : (pairs.map Prod.fst).Nodup) :
    BlockInv { s with kvPos := p, kvRem := r, kvPairs := pairs, kvState := .idle } :=
  { h with
    kv_in_busy := fun hne => absurd rfl hne
    kv_pinned := fun hne => absurd rfl hne
    kv_width := fun hne => absurd rfl hne
    kv_pos := nofun
    kv_rem := nofun
    kv_rem_width := nofun
    pairs_distinct := hd }

theorem inv_kvFailTruncated : BlockInv (kvFailTruncated s) :=
  inv_kvIdle (inv_signal h _) _ _ [] List.nodup_nil

theorem inv_kvStart (c : Bytes) (hp : s.phase = .busy) (hv : s.verValid = true) :
    BlockInv { signal (.decompReq c s.ver) s with
      kvW := widthOf s.ver, kvPairs := [], kvState := .decomp } :=
  { h with
    kv_in_busy := fun _ => hp
    kv_pinned := fun _ => hv
    kv_width := fun _ => rfl
    kv_pos := nofun
    kv_rem := nofun
    kv_rem_width := nofun
    pairs_distinct := List.nodup_nil }

theorem inv_decompOk (d : Bytes) (hk : s.kvState = .decomp)
    (hfit : fitsKvBuf Config.kvBufMax d.length = true) :
    BlockInv { s with kvBuf := d, kvPos := 0, kvState := .count } := by
  have hne : s.kvState ≠ .idle := by rw [hk]; nofun
  exact { h with
    kv_in_busy := fun _ => h.kv_in_busy hne
    kv_pinned := fun _ => h.kv_pinned hne
    kv_width := fun _ => h.kv_width hne
    kv_pos := fun _ => Nat.zero_le _
    kv_rem := nofun
    kv_rem_width := nofun
    sizes := (memory_wf_iff _).2 ⟨((memory_wf_iff s).1 h.sizes).1, hfit⟩ }

/-- A read state goes on to a state within a pair, with KV_REM still counting pairs. The strings and
lengths read so far are free (R33, R34). -/
theorem inv_readPair (hr : kvReading s.kvState = true) (k : KvState) (p : Nat) (r nl vl : BitVec 32)
    (nm : Bytes) (pairs : Pairs) (hpos : p ≤ s.kvBuf.length) (hrem : r ≠ 0)
    (hwidth : r.toNat < 256 ^ widthBytes s.kvW) (hd : (pairs.map Prod.fst).Nodup) :
    BlockInv { s with
      kvState := k, kvPos := p, kvRem := r, kvNlen := nl, kvVlen := vl, kvName := nm
      kvPairs := pairs } := by
  have hne := ne_idle_of_kvReading hr
  exact { h with
    kv_in_busy := fun _ => h.kv_in_busy hne
    kv_pinned := fun _ => h.kv_pinned hne
    kv_width := fun _ => h.kv_width hne
    kv_pos := fun _ => hpos
    kv_rem := fun _ => hrem
    kv_rem_width := fun _ => hwidth
    pairs_distinct := hd }

/-- Within a pair KV_REM and the pair store stay as they are. -/
theorem inv_readOn (hpair : inPair s.kvState = true) (k : KvState) (p : Nat) (nl vl : BitVec 32)
    (nm : Bytes) (hpos : p ≤ s.kvBuf.length) :
    BlockInv { s with kvState := k, kvPos := p, kvNlen := nl, kvVlen := vl, kvName := nm } :=
  inv_readPair h (kvReading_of_inPair hpair) k p _ nl vl nm _ hpos (h.kv_rem hpair)
    (h.kv_rem_width hpair) h.pairs_distinct

/-- At the end of a count or of a value KV_REM is loaded: KV_COMPLETE, or on to the next name. -/
theorem inv_nextPair (hr : kvReading s.kvState = true) (p : Nat) (r : BitVec 32) (pairs : Pairs)
    (hpos : p ≤ s.kvBuf.length) (hwidth : r.toNat < 256 ^ widthBytes s.kvW)
    (hd : (pairs.map Prod.fst).Nodup) :
    BlockInv (nextPair { s with kvPos := p, kvRem := r, kvPairs := pairs }) := by
  rcases nextPair_cases { s with kvPos := p, kvRem := r, kvPairs := pairs } with
    ⟨-, heq⟩ | ⟨hrem, heq⟩ <;> rw [heq]
  · exact inv_kvIdle (inv_signal h _) p r pairs hd
  · exact inv_readPair h hr .nlen p r _ _ _ pairs hpos hrem hwidth hd

theorem inv_kvStep {t : State} (hstep : kvStep s = .next t) : BlockInv t := by
  rcases kvStep_cases hstep with ⟨-, rfl⟩ | ⟨-, rfl⟩ | ⟨hk, hlen, rfl⟩ | ⟨hk, hlen, rfl⟩ |
    ⟨hk, hlen, rfl⟩ | ⟨hk, hlen, rfl⟩ | ⟨hk, hlen, rfl⟩
  · exact h
  · exact inv_kvFailTruncated h
  · exact inv_nextPair h (by rw [hk]; rfl) _ _ _ hlen (fieldValue_toNat_lt _ _ _) h.pairs_distinct
  · exact inv_readOn h (by rw [hk]; rfl) _ _ _ _ _ hlen
  · exact inv_readOn h (by rw [hk]; rfl) _ _ _ _ _ hlen
  · exact inv_readOn h (by rw [hk]; rfl) _ _ _ _ _ hlen
  · have hpair : inPair s.kvState = true := by rw [hk]; rfl
    exact inv_nextPair h (kvReading_of_inPair hpair) _ _ _ hlen
      ((toNat_sub_one_lt (h.kv_rem hpair)).trans (h.kv_rem_width hpair))
      (insertPair_nodup _ _ _ h.pairs_distinct)

/-! ### A whole step -/

theorem inv_change {e : Option Event} {t : State} (hc : Change e s t) : BlockInv t := by
  cases hc with
  | idle => exact h
  | header i c port _ hp =>
    have hport := inv_ports h port s.events
    exact inv_supplyHeader hport i (kvIdle_of_not_busy hport (by rw [hp]; nofun))
  | body c port _ hp _ hl => exact inv_bodyEffect (inv_ports h port _) c hp hl
  | kv _ _ _ hstep => exact inv_kvStep h hstep
  | bodyDone f _ _ hk => exact inv_completeFrame h f hk
  | bodyErr c _ _ hk => exact inv_raise h _ hk
  | kvStart c _ hp _ hv => exact inv_kvStart h c hp hv
  | decompOk d _ hk hfit => exact inv_decompOk h d hk hfit
  | overflow => exact inv_kvIdle (inv_signal h _) _ _ _ h.pairs_distinct
  | decompErr => exact inv_kvIdle (inv_signal h _) _ _ [] List.nodup_nil
  | resume _ hp => exact inv_awaitHeader h (kvIdle_of_not_busy h (by rw [hp]; nofun))
  | reset => exact inv_resetOp s
  | withdraw => exact inv_ports h _ _

end

/-- Settles O48: whatever change the step makes, the invariant survives it. -/
theorem everyStepKeepsTheInvariant : Obligations.EveryStepKeepsTheInvariant := by
  intro s t h hstep
  obtain ⟨port, -, hc⟩ := step_cases hstep
  exact inv_change (inv_ports h port _) hc

end Sys2Proof.Proofs
end

section
/-! SUPPORT. The bound of 10_state.md R35 on the pair store, the version pin of R24, and the state at
reset. -/

namespace Sys2Proof.Proofs

open Sys2Proof.Machine Sys2Proof.Laws Sys2Proof.Safety

/-! ### The pair store -/

theorem pairsFit_of_idle_nil {s : State} (hk : s.kvState = .idle) (hp : s.kvPairs = []) :
    PairsFit s where
  empty _ := hp
  reading := by rw [hk]; nofun
  stored _ := by rw [hp, List.length_nil, Nat.zero_mul]; exact Nat.zero_le _

theorem pairsFit_of_inPair {s : State} (hk : inPair s.kvState = true)
    (hfit : s.kvPairs.length * (2 * widthBytes s.kvW) + pairBytesRead s ≤ s.kvPos)
    (hpos : s.kvPos ≤ s.kvBuf.length) : PairsFit s where
  empty h := by rcases h with h | h <;> rw [h] at hk <;> cases hk
  reading _ := ⟨hfit, hpos⟩
  stored h := by rw [h] at hk; cases hk

/-- The end of a count or of a value: every pair of the store has used 2*KV_W bytes before KV_POS. -/
theorem pairsFit_nextPair {s : State}
    (hfit : s.kvPairs.length * (2 * widthBytes s.kvW) ≤ s.kvPos) (hpos : s.kvPos ≤ s.kvBuf.length) :
    PairsFit (nextPair s) := by
  rcases nextPair_cases s with ⟨-, heq⟩ | ⟨-, heq⟩ <;> rw [heq]
  · exact ⟨by simp, nofun, fun _ => hfit.trans hpos⟩
  · exact pairsFit_of_inPair rfl hfit hpos

section
variable {s : State} (h : PairsFit s)
include h

/-- The bound is about the KV unit: what leaves KV_STATE, KV_W, KV_BUF, KV_POS and KV_PAIRS alone
keeps it. -/
theorem pairsFit_congr {t : State} (hst : t.kvState = s.kvState) (hw : t.kvW = s.kvW)
    (hbuf : t.kvBuf = s.kvBuf) (hpos : t.kvPos = s.kvPos) (hpairs : t.kvPairs = s.kvPairs) :
    PairsFit t where
  empty := by rw [hst, hpairs]; exact h.empty
  reading := by rw [pairBytesRead, hst, hw, hbuf, hpos, hpairs]; exact h.reading
  stored := by rw [hst, hw, hbuf, hpairs]; exact h.stored

theorem pairsFit_ports (port : List Bytes) (events : List Event) :
    PairsFit { s with supplyPort := port, events := events } :=
  pairsFit_congr h rfl rfl rfl rfl rfl

theorem pairsFit_supplyHeader (r : Bool) (i : Instr) : PairsFit (supplyHeader r i s) := by
  rcases supplyHeader_cases r i s with ⟨-, heq⟩ | ⟨v, -, -, heq⟩ | ⟨v, -, -, heq⟩ <;> rw [heq]
  all_goals exact pairsFit_congr h (by simp) (by simp) (by simp) (by simp) (by simp)

theorem pairsFit_bodyEffect (i : Instr) (b : Bytes) : PairsFit (bodyEffect i b s) := by
  rcases bodyEffect_cases i b s with ⟨f, heq⟩ | ⟨c, heq, -⟩ <;> rw [heq]
  all_goals exact pairsFit_congr h rfl rfl rfl rfl rfl

theorem pairsFit_kvStep {t : State} (hstep : kvStep s = .next t) : PairsFit t := by
  rcases kvStep_cases hstep with ⟨-, rfl⟩ | ⟨-, rfl⟩ | ⟨hk, hlen, rfl⟩ | ⟨hk, hlen, rfl⟩ |
    ⟨hk, hlen, rfl⟩ | ⟨hk, hlen, rfl⟩ | ⟨hk, hlen, rfl⟩
  · exact h
  · exact pairsFit_of_idle_nil rfl rfl
  · exact pairsFit_nextPair (by simp [h.empty (.inr hk)]) hlen
  all_goals
    obtain ⟨hread, -⟩ := h.reading (by rw [hk]; rfl)
    simp only [pairBytesRead, hk] at hread
  · exact pairsFit_of_inPair rfl (by simp only [pairBytesRead]; omega) hlen
  · exact pairsFit_of_inPair rfl (by simp only [pairBytesRead]; omega) hlen
  · exact pairsFit_of_inPair rfl (by simp only [pairBytesRead]; omega) hlen
  · have hins := Nat.mul_le_mul_right (2 * widthBytes s.kvW) (insertPair_length_le s.kvPairs
      (strip s.kvName s.ver) (slice s.kvBuf s.kvPos s.kvVlen.toNat))
    rw [Nat.succ_mul s.kvPairs.length] at hins
    exact pairsFit_nextPair (by dsimp only; omega) hlen

theorem pairsFit_change {e : Option Event} {t : State} (hc : Change e s t) : PairsFit t := by
  cases hc with
  | idle => exact h
  | header i c port =>
    exact pairsFit_supplyHeader (pairsFit_ports h port _) true i
  | body c port => exact pairsFit_bodyEffect (pairsFit_ports h port _) _ c
  | kv _ _ _ hstep => exact pairsFit_kvStep h hstep
  | bodyDone | bodyErr | resume | withdraw => exact pairsFit_congr h rfl rfl rfl rfl rfl
  | kvStart => exact ⟨fun _ => rfl, nofun, nofun⟩
  | decompOk d _ hk => exact ⟨fun _ => h.empty (.inl hk), nofun, nofun⟩
  | overflow d _ hk => exact pairsFit_of_idle_nil rfl (h.empty (.inl hk))
  | decompErr => exact pairsFit_of_idle_nil rfl rfl
  | reset => exact pairsFit_of_idle_nil rfl rfl

end

/-- Settles O50: whatever change the step makes, the bound survives it. -/
theorem everyStepKeepsThePairStoreBounded : Obligations.EveryStepKeepsThePairStoreBounded := by
  intro s t h hstep
  obtain ⟨port, -, hc⟩ := step_cases hstep
  exact pairsFit_change (pairsFit_ports h port _) hc

/-- Settles O49: the block awaits a header, and the KV unit is idle with an empty store. -/
theorem resetMeetsTheInvariant : Obligations.ResetMeetsTheInvariant :=
  ⟨inv_reset, pairsFit_of_idle_nil rfl rfl⟩

/-! ### The pinned version -/

/-- From `s` to `t` the version registers stay, or a supported version is pinned where none was. -/
def PinKept (s t : State) : Prop :=
  (t.verValid = s.verValid ∧ t.ver = s.ver) ∨
  (s.verValid = false ∧ t.verValid = true ∧ (t.ver = 2 ∨ t.ver = 3))

theorem pinKept_supplyHeader (i : Instr) (s : State) : PinKept s (supplyHeader true i s) := by
  rcases supplyHeader_cases true i s with ⟨-, heq⟩ | ⟨v, -, hv, heq⟩ | ⟨v, -, -, heq⟩ <;> rw [heq]
  · exact .inl ⟨rfl, rfl⟩
  · have hpass := (versionCheckOk_true_iff v s).1 hv
    cases hset : s.verValid with
    | true => exact .inl (by simp [hset])
    | false => exact .inr (by simpa [hset] using hpass.1 hset)
  · exact .inl ⟨rfl, rfl⟩

@[simp] theorem nextPair_verValid (s : State) : (nextPair s).verValid = s.verValid := by
  rcases nextPair_cases s with ⟨-, heq⟩ | ⟨-, heq⟩ <;> simp [heq]

@[simp] theorem nextPair_ver (s : State) : (nextPair s).ver = s.ver := by
  rcases nextPair_cases s with ⟨-, heq⟩ | ⟨-, heq⟩ <;> simp [heq]

theorem pinKept_kvStep {s t : State} (hstep : kvStep s = .next t) : PinKept s t := by
  rcases kvStep_cases hstep with ⟨-, rfl⟩ | ⟨-, rfl⟩ | ⟨-, -, rfl⟩ | ⟨-, -, rfl⟩ | ⟨-, -, rfl⟩ |
    ⟨-, -, rfl⟩ | ⟨-, -, rfl⟩ <;> exact .inl (by simp)

theorem pinKept_change {e : Option Event} {s t : State} (hc : Change e s t)
    (he : e ≠ some .reset) : PinKept s t := by
  cases hc with
  | header i c port => exact pinKept_supplyHeader i { s with supplyPort := port }
  | body c port =>
    rcases bodyEffect_cases (decodeWord s.hdrReg) c { s with supplyPort := port } with
      ⟨f, heq⟩ | ⟨d, heq, -⟩ <;> rw [heq] <;> exact .inl ⟨rfl, rfl⟩
  | kv _ _ _ hstep => exact pinKept_kvStep hstep
  | reset hreset => exact absurd hreset he
  | idle | bodyDone | bodyErr | kvStart | decompOk | overflow | decompErr | resume | withdraw =>
    exact .inl ⟨rfl, rfl⟩

/-- Settles O44: every change but RESET keeps the pin. -/
theorem pinnedVersionIsImmutable : Obligations.PinnedVersionIsImmutable := by
  intro s t hstep he
  obtain ⟨port, -, hc⟩ := step_cases hstep
  rcases pinKept_change hc he with ⟨hvalid, hver⟩ | ⟨hunset, hvalid, hver⟩
  · exact ⟨fun hs => ⟨hvalid.trans hs, hver⟩, fun hs => .inl ⟨hvalid.trans hs, hver⟩⟩
  · exact ⟨fun hs => absurd (hunset.symm.trans hs) nofun, fun _ => .inr ⟨hvalid, hver⟩⟩

end Sys2Proof.Proofs
end

section
/-! SUPPORT. The step around the operations: the read-only views of 10_state.md R38, what the block does
without a transaction, and which transactions it takes (R40 to R46, R141, R142). -/

namespace Sys2Proof.Proofs

open Sys2Proof.Machine Sys2Proof.Laws Sys2Proof.Safety

/-! ### The views -/

theorem statusView_toNat (s : State) :
    (statusView s).toNat =
      (phaseCode s.phase).toNat + (BitVec.ofBool s.verValid).toNat * 2 ^ 3 +
        (errCodeBits s.err).toNat * 2 ^ 4 + (verView s).toNat * 2 ^ 8 +
        (kvStateCode s.kvState).toNat * 2 ^ 23 := by
  simp only [statusView, toNat_append_eq, BitVec.toNat_ofNat]
  omega

theorem needView_toNat (s : State) :
    (needView s).toNat = s.need.toNat + (BitVec.ofBool (supplyReady s)).toNat * 2 ^ 24 := by
  simp only [needView, toNat_append_eq, BitVec.toNat_ofNat]
  omega

theorem supplyReady_iff (s : State) :
    supplyReady s = true ↔ s.phase = .hdr ∨ s.phase = .body := by
  rw [supplyReady]; cases s.phase <;> simp

/-- Settles O25: each view is the sum of its fields, and each field is its own code. -/
theorem statusViewsHoldTheirFields : Obligations.StatusViewsHoldTheirFields := by
  refine ⟨by decide, by decide, fun s => ⟨?_, ?_⟩⟩
  · rw [statusView_toNat]
    refine congrArg₂ (· + ·) (congrArg₂ (· + ·) (congrArg₂ (· + ·) (congrArg₂ (· + ·) ?phase ?valid)
      (congrArg (· * 2 ^ 4) ?err)) (congrArg (· * 2 ^ 8) ?ver)) (congrArg (· * 2 ^ 23) ?kv)
    case phase => cases s.phase <;> rfl
    case valid => cases s.verValid <;> rfl
    case err => cases s.err <;> rfl
    case ver => rw [verView]; cases s.verValid <;> rfl
    case kv => cases s.kvState <;> rfl
  · rw [needView_toNat]
    simp only [← supplyReady_iff]
    cases supplyReady s <;> rfl

/-! ### The step -/

theorem step_cons {s : State} {e : Event} {rest : List Event} (h : s.events = e :: rest) :
    step s = takeEvent e { s with events := rest } := by
  rw [step, nextStep, h]

theorem step_own {s : State} (h : s.events = [] ∨ s.events.head? = some .advance) :
    step s = advance { s with events := s.events.tail } := by
  rw [step, nextStep]
  cases hev : s.events with
  | nil => rw [List.tail_nil, show { s with events := [] } = s by rw [← hev]]
  | cons e rest =>
    obtain rfl : e = .advance := by simpa [hev] using h
    rfl

theorem advance_of_reading {s : State} (h : kvReading s.kvState = true) : advance s = kvStep s :=
  if_pos h

theorem advance_of_not_reading {s : State} (h : kvReading s.kvState = false) :
    advance s = acceptSupply s := by
  rw [advance, h]; rfl

theorem acceptSupply_of_hdr {s : State} {c : Bytes} {port : List Bytes} {i : Instr}
    (hp : s.phase = .hdr) (hport : s.supplyPort = c :: port) (hl : c.length = s.need.toNat)
    (hi : decode c = .ok i) : acceptSupply s = exec i { s with supplyPort := port } := by
  rw [acceptSupply, hp]
  simp only [fetchHeader, hport, hl, if_true, hi, ← hp]

/-- Eight bytes are always a header, so in HDR the length alone decides (R84, R142). -/
theorem acceptSupply_of_hdr_cons {s : State} {c : Bytes} {port : List Bytes} (hp : s.phase = .hdr)
    (hneed : s.need = 8) (hport : s.supplyPort = c :: port) :
    acceptSupply s = if c.length = s.need.toNat then
        exec (decodeWord (wordOfBytes c)) { s with supplyPort := port }
      else .refused .wrongLengthSupply := by
  by_cases hl : c.length = s.need.toNat
  · rw [if_pos hl]
    exact acceptSupply_of_hdr hp hport hl (if_pos (by rw [hl, hneed]; rfl))
  · rw [if_neg hl, acceptSupply, hp]
    simp only [fetchHeader, hport, if_neg hl]

theorem acceptSupply_of_body {s : State} (hp : s.phase = .body) :
    acceptSupply s = exec (decodeWord s.hdrReg) s := by
  rw [acceptSupply, hp]

theorem acceptSupply_of_not_ready {s : State} (h : supplyReady s = false) :
    acceptSupply s = .next s := by
  rw [acceptSupply]
  rw [supplyReady] at h
  cases hp : s.phase with
  | hdr | body => rw [hp] at h; cases h
  | busy | error | fatal => rfl

/-- With no chunk presented the port waits, in every phase (R266). -/
theorem acceptSupply_of_empty {s : State} (h : s.supplyPort = []) : acceptSupply s = .next s := by
  rw [acceptSupply]
  cases hp : s.phase with
  | hdr => simp only [fetchHeader, h]
  | body => rw [exec_of_body _ _ hp, takeBody, h]
  | busy | error | fatal => rfl

/-- Settles O8: a SUPPLY joins the port, and the port takes the oldest chunk. -/
theorem stepRunsTheDecodedHeader : Obligations.StepRunsTheDecodedHeader := by
  refine ⟨fun s e b c port i hev hport hp hl hi => ?_, fun s e b hev hp => ?_⟩ <;> rw [step_cons hev]
  · exact acceptSupply_of_hdr hp hport hl hi
  · exact acceptSupply_of_body hp

/-- Settles O9: with no other transaction the step is `advance`. -/
theorem blockTakesItsOwnStep : Obligations.BlockTakesItsOwnStep := by
  intro s hev
  rw [step_own hev]
  have hport (hr : kvReading s.kvState = false) :
      advance { s with events := s.events.tail } = acceptSupply { s with events := s.events.tail } :=
    advance_of_not_reading hr
  refine ⟨fun hr => advance_of_reading hr, fun hr hempty => ?_, fun hr hready => ?_,
    fun c port i hr hp hcons hl hi => ?_, fun hr hp => ?_⟩ <;> rw [hport hr]
  · exact acceptSupply_of_empty hempty
  · exact acceptSupply_of_not_ready hready
  · exact acceptSupply_of_hdr hp hcons hl hi
  · exact acceptSupply_of_body hp

/-! ### Acceptance -/

/-- A step never faults, so it refuses exactly where it does not answer a next state. -/
theorem refused_iff_of_next_iff {r : Result} (hf : ∀ f, r ≠ .fault f) {b : Bool}
    (hn : (∃ t, r = .next t) ↔ b = true) : (∃ x, r = .refused x) ↔ b = false := by
  rw [← Bool.not_eq_true, ← hn]
  cases r with
  | next t => simp
  | fault f => exact absurd rfl (hf f)
  | refused x => simp

/-- A transaction that is taken on a condition and else refused. -/
theorem ite_next_iff {c : Prop} [Decidable c] {t : State} {x : Refusal} :
    (∃ u, (if c then .next t else .refused x : Result) = .next u) ↔ c := by
  by_cases hc : c <;> simp [hc]

/-- A read step of the KV unit truncates the block or goes on; it is never refused. -/
theorem readPrefix_answers (k : BitVec 32 → State → State) (s : State) :
    ∃ t, readPrefix k s = .next t := by
  rw [readPrefix_eq]; split <;> exact ⟨_, rfl⟩

theorem readString_answers (n : Nat) (k : Bytes → State → State) (s : State) :
    ∃ t, readString n k s = .next t := by
  rw [readString_eq]; split <;> exact ⟨_, rfl⟩

theorem kvStep_answers (s : State) : ∃ t, kvStep s = .next t := by
  unfold kvStep
  cases s.kvState with
  | idle | decomp => exact ⟨s, rfl⟩
  | count | nlen | vlen => exact readPrefix_answers _ s
  | name | value => exact readString_answers _ _ s

theorem accepted_advance_of_not_ready {s : State} (h : supplyReady s = false) :
    accepted .advance s = true := by
  simp only [accepted, h]
  split <;> rfl

section
variable {s : State} (h : BlockInv s)
include h

/-- In HDR the port takes a chunk of 8 bytes, which is always a header; in BODY one of NEED bytes. -/
theorem acceptSupply_next_iff :
    (∃ t, acceptSupply s = .next t) ↔ accepted .advance s = true := by
  cases hport : s.supplyPort with
  | nil => simp [acceptSupply_of_empty hport, accepted, hport]
  | cons c port =>
    simp only [accepted, hport, Bool.or_eq_true, Bool.not_eq_true', beq_iff_eq]
    cases hready : supplyReady s with
    | false => simp [acceptSupply_of_not_ready hready]
    | true =>
      simp only [Bool.true_eq_false, false_or]
      rcases (supplyReady_iff s).1 hready with hp | hp
      · rw [acceptSupply_of_hdr_cons hp (h.need_hdr hp) hport, exec_of_hdr _ _ (by exact hp)]
        exact ite_next_iff
      · rw [acceptSupply_of_body hp, exec_of_body _ _ hp, takeBody, hport]
        exact ite_next_iff

theorem takeEvent_next_iff (e : Event) :
    (∃ t, takeEvent e s = .next t) ↔ accepted e s = true := by
  cases e with
  | supply b =>
    refine (acceptSupply_next_iff (inv_ports h _ s.events)).trans ?_
    cases hport : s.supplyPort <;> simp [accepted, hport] <;> rfl
  | bodyDone | bodyErr => exact ite_next_iff
  | kvStart => exact ite_next_iff.trans (by simp [accepted, and_assoc])
  | decompOk d =>
    simp only [takeEvent, decompOk, accepted, beq_iff_eq]
    by_cases hk : s.kvState = .decomp
    · simp only [if_pos hk]
      split <;> simp [hk]
    · simp [hk]
  | decompErr => exact ite_next_iff.trans (by simp [accepted])
  | resume =>
    simp only [takeEvent, resume, accepted]
    cases s.phase <;> simp
  | reset | withdraw => exact ⟨fun _ => rfl, fun _ => ⟨_, rfl⟩⟩
  | advance =>
    cases hr : kvReading s.kvState with
    | false => rw [takeEvent, advance_of_not_reading hr]; exact acceptSupply_next_iff h
    | true =>
      rw [takeEvent, advance_of_reading hr]
      have hp := h.kv_in_busy (ne_idle_of_kvReading hr)
      exact ⟨fun _ => accepted_advance_of_not_ready (by rw [supplyReady, hp]),
        fun _ => kvStep_answers s⟩

end

/-- Settles O47: under the invariant each event's own rule decides, and no step faults. -/
theorem transactionsAreAcceptedByTheirPortsRule :
    Obligations.TransactionsAreAcceptedByTheirPortsRule := by
  intro s e rest h hev
  rw [step_cons hev]
  have hnext := takeEvent_next_iff (inv_ports h s.supplyPort rest) e
  exact ⟨hnext, refused_iff_of_next_iff (fun f => takeEvent_ne_fault _ f e) hnext⟩

end Sys2Proof.Proofs
end

section
/-! SUPPORT. What a step signals to the codec: one DECOMP_REQ on a KV_START, none on anything else
(20_memory.md R71, R171). -/

namespace Sys2Proof.Proofs

open Sys2Proof.Machine Sys2Proof.Safety Sys2Proof.Laws

/-! ### Counting the outputs of one step -/

/-- How many of one output are a DECOMP_REQ. -/
def requestsIn : Output → Nat
  | .decompReq _ _ => 1
  | .emit _ | .fail _ | .dispatch _ _ _ _ | .kvDone _ | .kvErr _ => 0

section
variable {s t : State}

theorem requestCount_congr (h : t.outputs = s.outputs) : requestCount t = requestCount s := by
  rw [requestCount, requestCount, h]

theorem requestCount_of_signalled {o : Output} (h : t.outputs = s.outputs ++ [o]) :
    requestCount t = requestCount s + requestsIn o := by
  rw [requestCount, requestCount, h, List.filter_append, List.length_append]
  cases o <;> rfl

/-! ### The operations that request nothing -/

theorem requestCount_supplyHeader (r : Bool) (i : Instr) (s : State) :
    requestCount (supplyHeader r i s) = requestCount s := by
  rcases supplyHeader_cases r i s with ⟨-, heq⟩ | ⟨v, -, -, heq⟩ | ⟨v, -, -, heq⟩ <;> rw [heq]
  · exact requestCount_congr rfl
  · exact requestCount_congr (by simp)
  · exact requestCount_of_signalled (raise_outputs _ s)

theorem requestCount_bodyEffect (i : Instr) (b : Bytes) (s : State) :
    requestCount (bodyEffect i b s) = requestCount s := by
  rcases bodyEffect_cases i b s with ⟨f, heq⟩ | ⟨c, heq, -⟩ <;> rw [heq]
  · exact requestCount_of_signalled (completeFrame_outputs f s)
  · exact requestCount_of_signalled (dispatchBody_outputs c _ b s)

theorem requestCount_nextPair (s : State) : requestCount (nextPair s) = requestCount s := by
  rcases nextPair_cases s with ⟨-, heq⟩ | ⟨-, heq⟩ <;> rw [heq]
  · exact requestCount_of_signalled (kvComplete_outputs s)
  · exact requestCount_congr rfl

theorem requestCount_kvStep (hstep : kvStep s = .next t) : requestCount t = requestCount s := by
  rcases kvStep_cases hstep with ⟨-, rfl⟩ | ⟨-, rfl⟩ | ⟨-, -, rfl⟩ | ⟨-, -, rfl⟩ | ⟨-, -, rfl⟩ |
    ⟨-, -, rfl⟩ | ⟨-, -, rfl⟩
  · rfl
  · exact requestCount_of_signalled (kvFailTruncated_outputs s)
  · exact requestCount_nextPair _
  · exact requestCount_congr rfl
  · exact requestCount_congr rfl
  · exact requestCount_congr rfl
  · exact requestCount_nextPair _

/-! ### A whole step -/

theorem requestCount_change {e : Option Event} (hc : Change e s t)
    (he : ∀ c, e ≠ some (.kvStart c)) : requestCount t = requestCount s := by
  cases hc with
  | header i c port => exact requestCount_supplyHeader true i _
  | body c port => exact requestCount_bodyEffect _ c _
  | kv _ _ _ hstep => exact requestCount_kvStep hstep
  | kvStart c hstart => exact absurd hstart (he c)
  | bodyDone f => exact requestCount_of_signalled (completeFrame_outputs f s)
  | bodyErr c => exact requestCount_of_signalled (raise_outputs _ s)
  | overflow | decompErr => exact requestCount_of_signalled (signal_outputs _ s)
  | idle | decompOk | resume | reset | withdraw => exact requestCount_congr rfl

theorem not_ownStep_kvStart (c : Bytes) : ¬ OwnStep (some (.kvStart c)) := by
  simp [OwnStep]

/-- A KV_START that is a step signals its DECOMP_REQ, with its bytes and the pinned version (R171). -/
theorem outputs_change_kvStart {c : Bytes} (hc : Change (some (.kvStart c)) s t) :
    t.outputs = s.outputs ++ [.decompReq c s.ver] := by
  cases hc with
  | kvStart _ hstart => cases hstart; rfl
  | idle hown | header _ _ _ hown | body _ _ hown | kv _ hown =>
    exact absurd hown (not_ownStep_kvStart c)
  | bodyDone _ hother | bodyErr _ hother | decompOk _ hother | overflow _ hother
  | decompErr _ hother | resume hother | reset hother | withdraw hother => cases hother

end

/-- Settles O46: the change a KV_START makes signals one DECOMP_REQ, every other change none. -/
theorem oneDecompressionRequestPerKvStart : Obligations.OneDecompressionRequestPerKvStart := by
  intro s t hstep
  obtain ⟨port, -, hc⟩ := step_cases hstep
  split
  · rename_i c hhead
    rw [hhead] at hc
    exact (requestCount_of_signalled (outputs_change_kvStart hc) :)
  · rename_i hother
    exact (requestCount_change hc hother :)

end Sys2Proof.Proofs
end

section
/-! SUPPORT. Encoding: a header word is decoded by its control bit and the selector of its type
(30_encoding.md R86), the encoder and the decoder of headers are inverse (R82 to R84, R118), and the
header literals of R95. -/

namespace Sys2Proof.Proofs

open Sys2Proof.Machine Sys2Proof.Laws

/-! ### The decoder, by control bit and selector -/

/-- The control header of a selector; only UNKNOWN keeps the type, which fixes every other selector
(R86, R87). -/
def controlInstr (c : Sel) (v : BitVec 15) (t : BitVec 16) (f : BitVec 8) (l : BitVec 24) : Instr :=
  match c with
  | .decoder .synStream => .synStream v f l
  | .decoder .synReply => .synReply v f l
  | .decoder .rstStream => .rstStream v f l
  | .decoder .settings => .settings v f l
  | .noop => .noop v f l
  | .decoder .ping => .ping v f l
  | .decoder .goaway => .goaway v f l
  | .decoder .headers => .headers v f l
  | .decoder .windowUpdate => .windowUpdate v f l
  | .decoder .xForwarded => .xForwarded v f l
  | .unknown => .unknown v t f l

theorem decodeWord_of_data {w : BitVec 64} (h : controlField w = false) :
    decodeWord w = .data (idField w) (flagsField w) (lengthField w) := by
  rw [decodeWord, classOf, h]; rfl

theorem decodeWord_of_control {w : BitVec 64} (h : controlField w = true) :
    decodeWord w = controlInstr (sel (typeField w)) (versionField w) (typeField w) (flagsField w)
      (lengthField w) := by
  rw [decodeWord, classOf, if_pos h]
  cases sel (typeField w) with
  | noop | unknown => rfl
  | decoder c => cases c <;> rfl

@[simp] theorem decodeWord_dataWord (id : BitVec 31) (f : BitVec 8) (l : BitVec 24) :
    decodeWord (dataWord id f l) = .data id f l := by
  rw [decodeWord_of_data (controlField_dataWord id f l)]; simp

@[simp] theorem decodeWord_controlWord (v : BitVec 15) (t : BitVec 16) (f : BitVec 8)
    (l : BitVec 24) : decodeWord (controlWord v t f l) = controlInstr (sel t) v t f l := by
  rw [decodeWord_of_control (controlField_controlWord v t f l)]; simp

/-- UNKNOWN is the selector of exactly the types that are not listed (R87, R210). -/
theorem sel_eq_unknown_iff (t : BitVec 16) : sel t = .unknown ↔ t ∉ listedTypes := by
  have hlisted : ∀ u ∈ listedTypes, sel u ≠ .unknown := by simp [listedTypes, sel]
  refine ⟨fun h hmem => hlisted t hmem h, fun h => ?_⟩
  simp only [listedTypes, List.mem_cons, List.not_mem_nil, or_false, not_or] at h
  simp only [sel, h, if_false]

theorem wf_unknown_iff (v : BitVec 15) (t : BitVec 16) (f : BitVec 8) (l : BitVec 24) :
    (Instr.unknown v t f l).wf = true ↔ sel t = .unknown := by
  simp [Instr.wf, sel_eq_unknown_iff]

/-! ### Encoder and decoder are inverse -/

theorem decodeWord_encodeWord {i : Instr} (h : i.wf = true) : decodeWord (encodeWord i) = i := by
  cases i with
  | data id f l => exact decodeWord_dataWord id f l
  | unknown v t f l =>
    rw [encodeWord, decodeWord_controlWord, (wf_unknown_iff v t f l).1 h, controlInstr]
  | synStream | synReply | rstStream | settings | noop | ping | goaway | headers | windowUpdate
  | xForwarded => exact decodeWord_controlWord _ _ _ _

theorem decodeWord_wf (w : BitVec 64) : (decodeWord w).wf = true := by
  cases hc : controlField w with
  | false => rw [decodeWord_of_data hc]; rfl
  | true =>
    rw [decodeWord_of_control hc]
    cases hs : sel (typeField w) with
    | unknown => exact (wf_unknown_iff _ _ _ _).2 hs
    | noop => rfl
    | decoder c => cases c <;> rfl

theorem decode_of_length {b : Bytes} (h : b.length = 8) :
    decode b = .ok (decodeWord (wordOfBytes b)) :=
  if_pos h

/-- Settles O1: the bytes keep the word, and the word keeps the header. -/
theorem decodeOfEncodeIsTheInstruction : Obligations.DecodeOfEncodeIsTheInstruction := by
  intro i hwf
  rw [encode, decode_of_length (bytesOfWord_length _), wordOfBytes_bytesOfWord,
    decodeWord_encodeWord hwf]

/-- Settles O2: the witness is the header of the string's word. -/
theorem everyEightBytesAreOneHeader : Obligations.EveryEightBytesAreOneHeader := by
  refine fun b => ⟨fun h => ⟨_, decode_of_length h, decodeWord_wf _, ?_⟩, fun h => if_neg h⟩
  rw [encode, encodeWord_decodeWord, bytesOfWord_wordOfBytes b h]

/-- Settles O7: eight closed words. -/
theorem specHeaderWordsDecode : Obligations.SpecHeaderWordsDecode := by
  unfold Obligations.SpecHeaderWordsDecode
  decide

/-! ### The header class as a function of the word's number -/

theorem typeField_toNat (w : BitVec 64) : (typeField w).toNat = w.toNat / 2 ^ 32 % 2 ^ 16 :=
  toNat_extract w 32 16

theorem decodeWord_of_type {w : BitVec 64} (code : BitVec 16) (hc : 2 ^ 63 ≤ w.toNat)
    (ht : w.toNat / 2 ^ 32 % 2 ^ 16 = code.toNat) :
    decodeWord w = controlInstr (sel code) (versionField w) code (flagsField w) (lengthField w) := by
  have htype : typeField w = code := BitVec.eq_of_toNat_eq ((typeField_toNat w).trans ht)
  rw [decodeWord_of_control ((controlField_iff w).2 hc), htype]

theorem sel_unknown_of_toNat {t : BitVec 16}
    (h : t.toNat = 0 ∨ (9 < t.toNat ∧ t.toNat ≠ 0xF000)) : sel t = .unknown := by
  have hlisted : ∀ u ∈ listedTypes, u.toNat ≠ 0 ∧ (u.toNat ≤ 9 ∨ u.toNat = 0xF000) := by
    simp [listedTypes]
  refine (sel_eq_unknown_iff t).2 fun hmem => ?_
  have := hlisted t hmem
  omega

/-- Settles O4: one word and one control word for each listed type, then the types outside the list. -/
theorem headerClassFollowsBit63AndType : Obligations.HeaderClassFollowsBit63AndType := by
  intro w
  refine ⟨fun hd => ⟨_, _, _, decodeWord_of_data ?_⟩, fun hc =>
    ⟨fun ht => ⟨_, _, _, decodeWord_of_type 0x0001 hc ht⟩,
      fun ht => ⟨_, _, _, decodeWord_of_type 0x0002 hc ht⟩,
      fun ht => ⟨_, _, _, decodeWord_of_type 0x0003 hc ht⟩,
      fun ht => ⟨_, _, _, decodeWord_of_type 0x0004 hc ht⟩,
      fun ht => ⟨_, _, _, decodeWord_of_type 0x0005 hc ht⟩,
      fun ht => ⟨_, _, _, decodeWord_of_type 0x0006 hc ht⟩,
      fun ht => ⟨_, _, _, decodeWord_of_type 0x0007 hc ht⟩,
      fun ht => ⟨_, _, _, decodeWord_of_type 0x0008 hc ht⟩,
      fun ht => ⟨_, _, _, decodeWord_of_type 0x0009 hc ht⟩,
      fun ht => ⟨_, _, _, decodeWord_of_type 0xF000 hc ht⟩,
      fun ht => ⟨versionField w, typeField w, flagsField w, lengthField w, ?_⟩⟩⟩
  · rw [← Bool.not_eq_true, controlField_iff]; omega
  · rw [← typeField_toNat] at ht
    rw [decodeWord_of_control ((controlField_iff w).2 hc), sel_unknown_of_toNat ht, controlInstr]

/-! ### Header literals (R95) -/

/-- FRAME takes the word's length field as the length its body must have (R95). -/
theorem assembleFrame_bytesOfWord (w : BitVec 64) (body : Bytes) :
    assembleFrame (some (bytesOfWord w)) body =
      if body.length = (lengthField w).toNat then some [bytesOfWord w, body] else none := by
  rw [assembleFrame, wordOfBytes_bytesOfWord]

/-- Settles O6: a literal that fits is the bytes of a control or a data word, whose fields come back;
one that does not fails its guard. -/
theorem headerLiteralsDecodeToTheirFields : Obligations.HeaderLiteralsDecodeToTheirFields := by
  refine ⟨fun v t f l hv ht hf hl => ⟨_, if_pos ⟨hv, ht, hf, hl⟩, rfl, ?_, fun body => ?_⟩,
    fun id f l hid hf hl => ⟨_, if_pos ⟨hid, hf, hl⟩, rfl, ?_, fun body => ?_⟩,
    fun v t f l hbig => if_neg (by omega), fun id f l hbig => if_neg (by omega)⟩
  · rw [wordOfBytes_bytesOfWord, hdrDecode_controlWord,
      BitVec.setWidth_ofNat_of_le_of_lt (by omega) hv]
  · rw [assembleFrame_bytesOfWord, lengthField_controlWord, BitVec.toNat_ofNat, Nat.mod_eq_of_lt hl]
  · rw [wordOfBytes_bytesOfWord, hdrDecode_dataWord,
      BitVec.setWidth_ofNat_of_le_of_lt (by omega) hid]
  · rw [assembleFrame_bytesOfWord, lengthField_dataWord, BitVec.toNat_ofNat, Nat.mod_eq_of_lt hl]

end Sys2Proof.Proofs
end

section
/-! SUPPORT. A KV block laid out by the format of 30_encoding.md R85, and what KV_PARSE (R183) reads of
it: one lemma per field, then one pair, then all of them. -/

namespace Sys2Proof.Proofs

open Sys2Proof.Machine Sys2Proof.Laws

/-! ### Big-endian fields (R85) -/

@[simp] theorem beField_length (n x : Nat) : (beField n x).length = n := by
  induction n generalizing x with
  | zero => rfl
  | succ n ih => simp [beField, ih]

/-- A field read back is the number laid out, when it fits (R8, R85). -/
theorem beAll_beField {n x : Nat} (h : x < 256 ^ n) : beAll (beField n x) = x := by
  induction n generalizing x with
  | zero => simp at h; rw [h]; rfl
  | succ n ih =>
    have hhigh : x / 256 < 256 ^ n := Nat.div_lt_of_lt_mul (by rwa [Nat.pow_succ'] at h)
    rw [beField, beAll_append, ih hhigh, BitVec.toNat_ofNat]
    omega

/-! ### Reads at a place in a string -/

section
variable {d pre x : Bytes} (hd : pre ++ x <+: d)
include hd

theorem memSlice_of_prefix : memSlice d pre.length x.length = some x := by
  obtain ⟨post, rfl⟩ := hd
  exact memSlice_eq_some.2 ⟨by simp, by simp [slice]⟩

theorem memRead_of_prefix : memRead d pre.length x.length = some (beAll x) := by
  obtain ⟨post, rfl⟩ := hd
  exact memRead_eq_some.2 ⟨by simp, by simp [be, slice]⟩

end

theorem memRead_beField {d pre : Bytes} {n x : Nat} (hd : pre ++ beField n x <+: d)
    (hx : x < 256 ^ n) : memRead d pre.length n = some x := by
  simpa [beAll_beField hx] using memRead_of_prefix hd

/-! ### The pair loop -/

/-- The loop takes one laid-out pair and goes on behind it (R85, R183). -/
theorem kvLoop_pair {d pre name value : Bytes} {v : BitVec 15} {w : Nat}
    (hw : w = widthBytes (widthOf v))
    (hd : pre ++ beField w name.length ++ name ++ beField w value.length ++ value <+: d)
    (hname : name.length < 256 ^ w) (hvalue : value.length < 256 ^ w) (rem : Nat) (acc : Pairs) :
    kvLoop d v (rem + 1) pre.length acc =
      kvLoop d v rem (pre ++ beField w name.length ++ name ++ beField w value.length ++ value).length
        (insertPair acc (strip name v) value) := by
  have hVlen := (List.prefix_append _ value).trans hd
  have hName := (List.prefix_append _ (beField w value.length)).trans hVlen
  have hNlen := (List.prefix_append _ name).trans hName
  have rNlen := memRead_beField hNlen hname
  have rName := memSlice_of_prefix hName
  have rVlen := memRead_beField hVlen hvalue
  have rValue := memSlice_of_prefix hd
  simp only [List.length_append, beField_length] at rName rVlen rValue ⊢
  subst hw
  simp only [kvLoop, rNlen, rName, rVlen, rValue]

/-- Inserting a block's pairs, with stripped names, after those already there (R178 to R180). -/
def insertAllFrom (v : BitVec 15) (acc pairs : Pairs) : Pairs :=
  pairs.foldl (fun acc p => insertPair acc (strip p.1 v) p.2) acc

theorem kvInsertAll_eq (v : BitVec 15) (pairs : Pairs) :
    kvInsertAll v pairs = insertAllFrom v [] pairs := rfl

@[simp] theorem insertAllFrom_cons (v : BitVec 15) (acc : Pairs) (p : Bytes × Bytes) (rest : Pairs) :
    insertAllFrom v acc (p :: rest) = insertAllFrom v (insertPair acc (strip p.1 v) p.2) rest := rfl

theorem kvFits_iff (v : BitVec 15) (pairs : Pairs) :
    kvFits v pairs = true ↔ pairs.length < 256 ^ widthBytes (widthOf v) ∧
      ∀ p ∈ pairs, p.1.length < 256 ^ widthBytes (widthOf v) ∧
        p.2.length < 256 ^ widthBytes (widthOf v) := by
  simp [kvFits]

/-- The loop started where laid-out pairs begin reads all of them and nothing after (R183, R184). -/
theorem kvLoop_pairBytes {v : BitVec 15} {w : Nat} (hw : w = widthBytes (widthOf v)) (pairs : Pairs)
    (hfit : ∀ p ∈ pairs, p.1.length < 256 ^ w ∧ p.2.length < 256 ^ w) (pre post : Bytes)
    (acc : Pairs) :
    kvLoop (pre ++ kvPairBytes w pairs ++ post) v pairs.length pre.length acc =
      some (insertAllFrom v acc pairs) := by
  induction pairs generalizing pre acc with
  | nil => rfl
  | cons p rest ih =>
    obtain ⟨⟨hname, hvalue⟩, hrest⟩ := List.forall_mem_cons.1 hfit
    have hbytes : pre ++ kvPairBytes w (p :: rest) ++ post =
        pre ++ beField w p.1.length ++ p.1 ++ beField w p.2.length ++ p.2 ++ kvPairBytes w rest ++
          post := by
      simp [kvPairBytes]
    rw [hbytes, List.length_cons, kvLoop_pair hw (by simp) hname hvalue, ih hrest,
      insertAllFrom_cons]

/-- KV_PARSE reads the count of a laid-out block and then its pairs (R183 to R185). -/
theorem kvParse_kvBlock {v : BitVec 15} {pairs : Pairs} (hfit : kvFits v pairs = true)
    (trailing : Bytes) : kvParse (kvBlock v pairs ++ trailing) v = some (kvInsertAll v pairs) := by
  obtain ⟨hcount, hstrings⟩ := (kvFits_iff v pairs).1 hfit
  have rCount := memRead_beField (d := kvBlock v pairs ++ trailing) (pre := [])
    (by simp [kvBlock]) hcount
  have rPairs := kvLoop_pairBytes rfl pairs hstrings (beField (widthBytes (widthOf v)) pairs.length)
    trailing []
  rw [beField_length] at rPairs
  rw [List.length_nil] at rCount
  rw [kvParse, rCount, kvInsertAll_eq, ← rPairs]
  rfl

/-! ### Distinct names (R186) -/

theorem insertPair_of_new {pairs : Pairs} {name : Bytes} (h : name ∉ pairs.map Prod.fst)
    (value : Bytes) : insertPair pairs name value = pairs ++ [(name, value)] := by
  refine if_neg fun hany => h ?_
  simpa using hany

/-- Pairs whose names are new and distinct are appended as they come (R180). -/
theorem insertAllFrom_of_nodup {v : BitVec 15} {acc pairs : Pairs}
    (h : (acc.map Prod.fst ++ pairs.map (fun p => strip p.1 v)).Nodup) :
    insertAllFrom v acc pairs = acc ++ pairs.map (fun p => (strip p.1 v, p.2)) := by
  induction pairs generalizing acc with
  | nil => simp [insertAllFrom]
  | cons p rest ih =>
    have hnew : strip p.1 v ∉ acc.map Prod.fst := fun hmem =>
      List.disjoint_of_nodup_append h hmem List.mem_cons_self
    rw [insertAllFrom_cons, insertPair_of_new hnew, ih (by simpa using h)]
    simp

/-- Settles O37: the loop reads each laid-out pair back, and distinct names make every insertion an
append. -/
theorem laidOutBlockParsesToItsPairs : Obligations.LaidOutBlockParsesToItsPairs := by
  refine fun v pairs trailing hfit => ⟨kvParse_kvBlock hfit trailing, fun hdistinct => ?_⟩
  exact insertAllFrom_of_nodup (acc := []) hdistinct

end Sys2Proof.Proofs
end

section
/-! SUPPORT. HDR_DECODE and the bytes of the header: the record put back (40_header_decoder.md R119),
and each field as a big-endian read (R111 to R117, R120). -/

namespace Sys2Proof.Proofs

open Sys2Proof.Laws

/-! ### The record put back (R119) -/

theorem hdrDecode_of_control {w : BitVec 64} (h : controlField w = true) :
    hdrDecode w =
      { control := true, version := some ((versionField w).setWidth 16), type := some (typeField w),
        id := none, flags := flagsField w, length := lengthField w } :=
  if_pos h

theorem hdrDecode_of_data {w : BitVec 64} (h : controlField w = false) :
    hdrDecode w =
      { control := false, version := none, type := none, id := some ((idField w).setWidth 32),
        flags := flagsField w, length := lengthField w } :=
  if_neg (by simp [h])

theorem hdrDecode_flags (w : BitVec 64) : (hdrDecode w).flags = flagsField w := by
  cases h : controlField w with
  | true => rw [hdrDecode_of_control h]
  | false => rw [hdrDecode_of_data h]

/-- A field is kept in one bit more than it has (R88) and comes back unchanged. -/
theorem setWidth_succ_setWidth {n : Nat} (x : BitVec n) : (x.setWidth (n + 1)).setWidth n = x := by
  rw [BitVec.setWidth_setWidth_of_le _ (Nat.le_succ n), BitVec.setWidth_eq]

theorem hdrEncode_hdrDecode (w : BitVec 64) : hdrEncode (hdrDecode w) = some w := by
  cases h : controlField w with
  | true =>
    have hw := controlWord_of_fields w h
    rw [← setWidth_succ_setWidth (versionField w)] at hw
    rw [hdrDecode_of_control h]
    exact congrArg some hw
  | false =>
    have hw := dataWord_of_fields w h
    rw [← setWidth_succ_setWidth (idField w)] at hw
    rw [hdrDecode_of_data h]
    exact congrArg some hw

/-- Settles O3: re-encoding is a left inverse of the decoding of 8 bytes, which is therefore
injective. -/
theorem reencodingDecodedHeaderGivesItsBytes :
    Obligations.ReencodingDecodedHeaderGivesItsBytes := by
  have hback : ∀ hdr : Bytes, hdr.length = 8 →
      (hdrEncode (hdrDecode (wordOfBytes hdr))).map bytesOfWord = some hdr := fun hdr hlen => by
    rw [hdrEncode_hdrDecode, Option.map_some, bytesOfWord_wordOfBytes hdr hlen]
  refine ⟨hback, fun a b ha hb heq => Option.some_inj.1 ?_⟩
  rw [← hback a ha, heq, hback b hb]

/-! ### Reads of a string as digits of its number (R8) -/

theorem beAll_append_bytes (a b : Bytes) : beAll (a ++ b) = beAll a * 256 ^ b.length + beAll b := by
  induction b using List.reverseRecOn with
  | nil => simp [beAll]
  | append_singleton b x ih =>
    rw [← List.append_assoc, beAll_append, beAll_append, ih, List.length_append,
      List.length_singleton, Nat.pow_succ]
    ring

/-- Cutting a string is dividing its number: the quotient is what stands before the cut. -/
theorem beAll_eq_take_add_drop (b : Bytes) (k : Nat) :
    beAll b = beAll (b.take k) * 256 ^ (b.length - k) + beAll (b.drop k) := by
  rw [← List.length_drop, ← beAll_append_bytes, List.take_append_drop]

theorem beAll_drop_lt (b : Bytes) (k : Nat) : beAll (b.drop k) < 256 ^ (b.length - k) := by
  simpa using beAll_lt (b.drop k)

theorem beAll_drop (b : Bytes) (k : Nat) : beAll (b.drop k) = beAll b % 256 ^ (b.length - k) := by
  rw [beAll_eq_take_add_drop b k, Nat.mul_add_mod_of_lt (beAll_drop_lt b k)]

theorem beAll_take (b : Bytes) (k : Nat) : beAll (b.take k) = beAll b / 256 ^ (b.length - k) := by
  rw [beAll_eq_take_add_drop b k, Nat.mul_comm, Nat.mul_add_div (by positivity),
    Nat.div_eq_of_lt (beAll_drop_lt b k), Nat.add_zero]

/-- A read of `n` bytes with `k` bytes behind it: shift those out and keep `n` bytes (R8). -/
theorem be_eq_div_mod {b : Bytes} {off n k : Nat} (h : b.length = off + n + k) :
    be b off n = beAll b / 256 ^ k % 256 ^ n := by
  rw [be, slice, beAll_take, beAll_drop, List.length_drop, h,
    show off + n + k - off - n = k by omega, show off + n + k - off = k + n by omega, Nat.pow_add,
    Nat.mod_mul_right_div_self]

/-! ### The fields as byte reads -/

theorem wordOfBytes_toNat {hdr : Bytes} (h : hdr.length = 8) :
    (wordOfBytes hdr).toNat = beAll hdr := by
  have hlt := beAll_lt hdr
  rw [h] at hlt
  rw [wordOfBytes, be, slice, List.drop_zero, List.take_of_length_le h.le, BitVec.toNat_ofNat]
  exact Nat.mod_eq_of_lt hlt

/-- A read of a header is a bit field of its word, at byte boundaries (R81). -/
theorem be_eq_wordField {hdr : Bytes} (hlen : hdr.length = 8) (off n k : Nat)
    (h : 8 = off + n + k) : be hdr off n = (wordOfBytes hdr).toNat / 256 ^ k % 256 ^ n := by
  rw [wordOfBytes_toNat hlen, be_eq_div_mod (hlen.trans h)]

section
variable {hdr : Bytes} (hlen : hdr.length = 8)
include hlen

theorem controlField_iff_be : controlField (wordOfBytes hdr) = true ↔ 128 ≤ be hdr 0 1 := by
  rw [controlField_iff, be_eq_wordField hlen 0 1 7 rfl]
  have := (wordOfBytes hdr).isLt
  omega

theorem versionField_be : (versionField (wordOfBytes hdr)).toNat = be hdr 0 2 % 2 ^ 15 := by
  rw [versionField, toNat_extract, be_eq_wordField hlen 0 2 6 rfl]
  omega

theorem typeField_be : (typeField (wordOfBytes hdr)).toNat = be hdr 2 2 :=
  (typeField_toNat _).trans (be_eq_wordField hlen 2 2 4 rfl).symm

theorem idField_be : (idField (wordOfBytes hdr)).toNat = be hdr 0 4 % 2 ^ 31 := by
  rw [idField, toNat_extract, be_eq_wordField hlen 0 4 4 rfl]
  omega

theorem flagsField_be : (flagsField (wordOfBytes hdr)).toNat = be hdr 4 1 :=
  (toNat_extract _ 24 8).trans (be_eq_wordField hlen 4 1 3 rfl).symm

theorem lengthField_be : (lengthField (wordOfBytes hdr)).toNat = be hdr 5 3 :=
  (toNat_extract _ 0 24).trans (be_eq_wordField hlen 5 3 0 rfl).symm

/-- The 24-bit read of the length is the 32-bit read over the flags byte, masked (R120). -/
theorem be_length_masked : be hdr 4 4 % 2 ^ 24 = be hdr 5 3 := by
  rw [be_eq_wordField hlen 4 4 0 rfl, be_eq_wordField hlen 5 3 0 rfl]
  omega

end

/-- Settles O5: the fields every header has, then those of a control and those of a data header. -/
theorem headerFieldsAreByteReads : Obligations.HeaderFieldsAreByteReads := by
  intro hdr hlen
  refine ⟨?_, ?_, ?_, be_length_masked hlen, fun hc => ?_, fun hd => ?_⟩
  · rw [hdrDecode_control, controlField_iff_be hlen]
  · rw [hdrDecode_flags, flagsField_be hlen]
  · rw [hdrDecode_length, lengthField_be hlen]
  · rw [hdrDecode_control] at hc
    rw [hdrDecode_of_control hc, Option.map_some, Option.map_some,
      BitVec.toNat_setWidth_of_le (by decide), versionField_be hlen, typeField_be hlen]
    exact ⟨rfl, rfl, rfl⟩
  · rw [hdrDecode_control] at hd
    rw [hdrDecode_of_data hd, Option.map_some, BitVec.toNat_setWidth_of_le (by decide),
      idField_be hlen]
    exact ⟨rfl, rfl, rfl⟩

end Sys2Proof.Proofs
end

section
/-! SUPPORT. The frame controller's transactions (41_frame_controller.md): a header and a body on the
supply port, and the other ports' answers, each once as what the step gives (R131 to R142). -/

namespace Sys2Proof.Proofs

open Sys2Proof.Machine Sys2Proof.Laws Sys2Proof.Safety

/-! ### The version check (R132) -/

theorem supplyHeader_of_data {i : Instr} (hv : i.version? = none) (r : Bool) (s : State) :
    supplyHeader r i s = acceptHeader i s := by
  rw [supplyHeader, hv]

theorem supplyHeader_of_passes {i : Instr} {s : State} {v : BitVec 15} {r : Bool}
    (hv : i.version? = some v) (hok : versionCheckOk r v s = true) :
    supplyHeader r i s = acceptHeader i (pinVersion v s) := by
  rw [supplyHeader, hv]; exact if_pos hok

theorem supplyHeader_of_fails {i : Instr} {s : State} {v : BitVec 15} {r : Bool}
    (hv : i.version? = some v) (hok : versionCheckOk r v s = false) :
    supplyHeader r i s = raise (.unsupportedVersion v) s := by
  rw [supplyHeader, hv]; exact if_neg (by simp [hok])

theorem versionCheckOk_of_unset {s : State} (h : s.verValid = false) (r : Bool) (v : BitVec 15) :
    versionCheckOk r v s = true ↔ v = 2 ∨ v = 3 := by
  simp [versionCheckOk, h]

theorem versionCheckOk_of_set {s : State} (h : s.verValid = true) (r : Bool) (v : BitVec 15) :
    versionCheckOk r v s = true ↔ v = s.ver ∨ r = false := by
  simp [versionCheckOk, h, or_comm]

theorem pinVersion_of_set {s : State} (h : s.verValid = true) (v : BitVec 15) :
    pinVersion v s = s :=
  if_pos h

theorem pinVersion_of_unset {s : State} (h : s.verValid = false) (v : BitVec 15) :
    pinVersion v s = { s with ver := v, verValid := true } :=
  if_neg (by simp [h])

/-- Settles O12: the check decides between keeping the header, with the pin, and error entry. -/
theorem versionRecheckIsAParameter : Obligations.VersionRecheckIsAParameter := by
  intro i s v r hv
  dsimp only
  cases hset : s.verValid with
  | false =>
    have hok := versionCheckOk_of_unset hset r v
    refine ⟨fun _ h => ?_, fun _ h2 h3 => ?_, nofun, nofun, nofun⟩
    · rw [supplyHeader_of_passes hv (hok.2 h)]
      simp [hset]
    · rw [supplyHeader_of_fails hv (Bool.eq_false_iff.2 fun h => (hok.1 h).elim h2 h3)]
      exact ⟨rfl, hset, rfl⟩
  | true =>
    have hok := versionCheckOk_of_set hset r v
    refine ⟨nofun, nofun, fun _ => ?_, fun _ h => ?_, fun _ hne hr => ?_⟩
    · cases hcheck : versionCheckOk r v s with
      | true => rw [supplyHeader_of_passes hv hcheck, pinVersion_of_set hset]; exact ⟨hset, rfl⟩
      | false => rw [supplyHeader_of_fails hv hcheck]; exact ⟨hset, rfl⟩
    · rw [supplyHeader_of_passes hv (hok.2 h)]; rfl
    · have hfail : versionCheckOk r v s = false :=
        Bool.eq_false_iff.2 fun h => (hok.1 h).elim hne (by simp [hr])
      rw [supplyHeader_of_fails hv hfail]; rfl

/-! ### The header phase (R131) -/

/-- Settles O10: the check passes, and the pin writes VER only where none is set. -/
theorem acceptedHeaderAwaitsItsBody : Obligations.AcceptedHeaderAwaitsItsBody := by
  intro i s hp hpass
  rw [exec_of_hdr i s hp]
  cases hv : i.version? with
  | none => rw [supplyHeader_of_data hv]; simp [acceptHeader]
  | some v =>
    rw [supplyHeader_of_passes hv ((versionCheckOk_true_iff v s).2 (hpass v hv))]
    cases hset : s.verValid with
    | true => rw [pinVersion_of_set hset]; simp [acceptHeader, hset]
    | false => rw [pinVersion_of_unset hset]; simp [acceptHeader]

/-- A SUPPLY joins the port, and the port takes or leaves the oldest chunk (R40, R141). -/
theorem step_supply {s : State} {e : List Event} {b : Bytes} (hev : s.events = .supply b :: e) :
    step s = acceptSupply { s with events := e, supplyPort := s.supplyPort ++ [b] } :=
  step_cons hev

section
variable {s : State} {e : List Event} {b : Bytes} (hev : s.events = .supply b :: e)
  (hport : s.supplyPort = [])
include hev hport

/-- SUPPLY_HEADER of the header that the 8 bytes are, taken off the port in the same step. -/
theorem step_supply_hdr (hp : s.phase = .hdr) (hneed : s.need = 8) (hl : b.length = 8) :
    step s = .next (supplyHeader true (decodeWord (wordOfBytes b)) { s with events := e }) := by
  rw [step_supply hev, hport, List.nil_append,
    acceptSupply_of_hdr (by exact hp) rfl (by rw [hl, hneed]; rfl) (decode_of_length hl),
    exec_of_hdr _ _ (by exact hp), ← hport]

/-- The body of the header in HDR_REG, taken off the port in the same step. -/
theorem step_supply_body (hp : s.phase = .body) (hl : b.length = s.need.toNat) :
    step s = .next (bodyEffect (decodeWord s.hdrReg) b { s with events := e }) := by
  rw [step_supply hev, hport, List.nil_append, acceptSupply_of_body (by exact hp),
    exec_of_body _ _ (by exact hp), takeBody_cons _ _ b [] rfl (by exact hl), ← hport]

end

theorem decodeWord_version? (w : BitVec 64) :
    (decodeWord w).version? = if controlField w then some (versionField w) else none := by
  rw [version?_eq, encodeWord_decodeWord]

theorem decodeWord_bodyLength (w : BitVec 64) : (decodeWord w).bodyLength = (hdrDecode w).length := by
  rw [← lengthField_encodeWord, encodeWord_decodeWord, hdrDecode_length]

/-- A header record that has a version is a control header's, and the version is the field (R117). -/
theorem decodeWord_version?_of_header {w : BitVec 64} {v : BitVec 15}
    (h : (hdrDecode w).version = some (v.setWidth 16)) : (decodeWord w).version? = some v := by
  rw [decodeWord_version?]
  cases hc : controlField w with
  | false => rw [hdrDecode_of_data hc] at h; cases h
  | true =>
    rw [hdrDecode_of_control hc] at h
    rw [if_pos rfl, ← setWidth_succ_setWidth (versionField w), Option.some.inj h,
      setWidth_succ_setWidth]

/-- What an accepted header leaves of the bytes that came (R131). -/
theorem acceptHeader_decodeWord (w : BitVec 64) (s : State) :
    acceptHeader (decodeWord w) s =
      { s with hdrReg := w, phase := .body, need := (hdrDecode w).length } := by
  rw [acceptHeader, encodeWord_decodeWord, decodeWord_bodyLength]

/-- Settles O11: the step is SUPPLY_HEADER, and the record's version is the one checked. -/
theorem supplyHeaderStep : Obligations.SupplyHeaderStep := by
  intro s e b hev hport hp hneed hl
  dsimp only
  rw [step_supply_hdr hev hport hp hneed hl]
  refine ⟨fun hc => ?_, fun v hv => ?_⟩
  · rw [hdrDecode_control] at hc
    rw [supplyHeader_of_data (by rw [decodeWord_version?, hc]; rfl), acceptHeader_decodeWord]
    rfl
  · replace hv := decodeWord_version?_of_header hv
    refine ⟨fun hset h => ?_, fun hset h => ?_, fun h => ?_⟩
    · rw [supplyHeader_of_passes hv ((versionCheckOk_of_unset (by exact hset) _ _).2 h),
        pinVersion_of_unset (by exact hset), acceptHeader_decodeWord]
      rfl
    · have hok : versionCheckOk true v s = true := (versionCheckOk_of_set hset _ _).2 (.inl h)
      rw [supplyHeader_of_passes hv (by exact hok), pinVersion_of_set (by exact hset), acceptHeader_decodeWord]
      rfl
    · rw [supplyHeader_of_fails hv (Bool.eq_false_iff.2 fun hok => ?_)]
      · rfl
      · obtain ⟨hunset, hpinned⟩ := (versionCheckOk_true_iff v _).1 hok
        rcases h with ⟨hset, h2, h3⟩ | ⟨hset, hne⟩
        · exact (hunset hset).elim h2 h3
        · exact hne (hpinned hset)

/-! ### The body phase (R133 to R136) -/

/-- A body of NEED bytes on the port is taken off it and used as its class does. -/
theorem exec_of_body_cons {i : Instr} {s : State} {b : Bytes} {port : List Bytes}
    (hp : s.phase = .body) (hport : s.supplyPort = b :: port) (hl : b.length = s.need.toNat) :
    exec i s = .next (bodyEffect i b { s with supplyPort := port }) := by
  rw [exec_of_body i s hp, takeBody_cons _ s b port hport hl]

theorem completeFrame_eq (f : Frame) (s : State) :
    completeFrame f s =
      { s with phase := .hdr, need := 8, outputs := s.outputs ++ [.emit f] } := rfl

theorem flagFin_eq (flags : BitVec 8) : flagFin flags = (flags.toNat % 2 == 1) := by
  simp [flagFin, BitVec.getLsbD, Nat.testBit_eq_decide_div_mod_eq, beq_eq_decide]

theorem flagCompressed_eq (flags : BitVec 8) :
    flagCompressed flags = (flags.toNat / 2 % 2 == 1) := by
  simp [flagCompressed, BitVec.getLsbD, Nat.testBit_eq_decide_div_mod_eq, beq_eq_decide]

theorem bodyData_eq (id : BitVec 31) (flags : BitVec 8) (b : Bytes) (s : State) :
    bodyData id flags b s = { s with
      phase := .hdr, need := 8
      outputs := s.outputs ++
        [.emit (.data id (flags.toNat % 2 == 1) (flags.toNat / 2 % 2 == 1) b)] } := by
  rw [bodyData, flagFin_eq, flagCompressed_eq, completeFrame_eq]

/-- A header record that has an id is a data header's (R117). -/
theorem decodeWord_of_id {w : BitVec 64} {id : BitVec 31}
    (h : (hdrDecode w).id = some (id.setWidth 32)) :
    decodeWord w = .data id (hdrDecode w).flags (hdrDecode w).length := by
  cases hc : controlField w with
  | true => rw [hdrDecode_of_control hc] at h; cases h
  | false =>
    rw [hdrDecode_of_data hc] at h
    rw [decodeWord_of_data hc, hdrDecode_flags, hdrDecode_length,
      ← setWidth_succ_setWidth (idField w), Option.some.inj h, setWidth_succ_setWidth]

/-- A header record that has a type is a control header's, of the class the type selects (R117, R210). -/
theorem decodeWord_of_headerType {w : BitVec 64} {t : BitVec 16} (h : (hdrDecode w).type = some t) :
    decodeWord w = controlInstr (sel t) (versionField w) t (flagsField w) (lengthField w) := by
  cases hc : controlField w with
  | false => rw [hdrDecode_of_data hc] at h; cases h
  | true =>
    rw [hdrDecode_of_control hc] at h
    rw [decodeWord_of_control hc, Option.some.inj h]

/-- Settles O13: the body effect of the header given, and of the one in HDR_REG. -/
theorem dataBodyIsEmittedRaw : Obligations.DataBodyIsEmittedRaw := by
  refine ⟨fun id flags length s b port hp hport hl => ?_, fun id s e b hev hport hp hl hid => ?_⟩
  · rw [exec_of_body_cons hp hport hl, bodyEffect, bodyData_eq]
  · rw [step_supply_body hev hport hp hl, decodeWord_of_id hid, bodyEffect, bodyData_eq]

/-- Settles O14: type 5 selects NOOP, whose body effect drops the body. -/
theorem noopBodyIsDropped : Obligations.NoopBodyIsDropped := by
  refine ⟨fun v flags length s b port hp hport hl => ?_, fun s e b hev hport hp hl ht => ?_⟩
  · rw [exec_of_body_cons hp hport hl]; rfl
  · rw [step_supply_body hev hport hp hl, decodeWord_of_headerType ht]; rfl

/-- Settles O15: a type outside the list selects UNKNOWN, which keeps it. -/
theorem unknownBodyIsPassedThrough : Obligations.UnknownBodyIsPassedThrough := by
  refine ⟨fun v t flags length s b port hp hport hl => ?_,
    fun t s e b hev hport hp hl ht hlisted => ?_⟩
  · rw [exec_of_body_cons hp hport hl]; rfl
  · rw [step_supply_body hev hport hp hl, decodeWord_of_headerType ht,
      (sel_eq_unknown_iff t).2 hlisted]
    rfl

theorem header_decodeWord (w : BitVec 64) : (decodeWord w).header = hdrDecode w := by
  rw [Instr.header, encodeWord_decodeWord]

/-- Each selector of the body decoder dispatches to itself, with its own header (R136, R210). -/
theorem bodyEffect_controlInstr (c : BodyClass) (v : BitVec 15) (t : BitVec 16) (f : BitVec 8)
    (l : BitVec 24) :
    bodyEffect (controlInstr (.decoder c) v t f l) =
      dispatchBody c (controlInstr (.decoder c) v t f l).header := by
  cases c <;> rfl

/-- The header record that a class dispatches is that of its type (R87, R110). -/
theorem header_controlInstr (c : BodyClass) (v : BitVec 15) (t : BitVec 16) (f : BitVec 8)
    (l : BitVec 24) (ht : sel t = .decoder c) :
    (controlInstr (.decoder c) v t f l).header =
      { control := true, version := some (v.setWidth 16), type := some t, id := none,
        flags := f, length := l } := by
  rw [← ht, ← decodeWord_controlWord, header_decodeWord, hdrDecode_controlWord]

theorem exec_controlInstr_of_body {s : State} {b : Bytes} {port : List Bytes}
    (hp : s.phase = .body) (hport : s.supplyPort = b :: port) (hl : b.length = s.need.toNat)
    (c : BodyClass) (v : BitVec 15) {t : BitVec 16} (f : BitVec 8) (l : BitVec 24)
    (ht : sel t = .decoder c) :
    exec (controlInstr (.decoder c) v t f l) s = .next { s with
      phase := .busy, need := 0, bodyBuf := b, supplyPort := port
      outputs := s.outputs ++
        [.dispatch c
          { control := true, version := some (v.setWidth 16), type := some t, id := none,
            flags := f, length := l } b (if s.verValid then some s.ver else none)] } := by
  rw [exec_of_body_cons hp hport hl, bodyEffect_controlInstr, header_controlInstr c v t f l ht]
  rfl

/-- Settles O16: one lemma over the nine selectors, and the type in HDR_REG selects one of them. -/
theorem controlBodyIsDispatched : Obligations.ControlBodyIsDispatched := by
  refine ⟨fun v flags length s b port hp hport hl => ?_, fun t c s e b hev hport hp hl ht hc => ?_⟩
  · have hexec (c : BodyClass) (t : BitVec 16) (ht : sel t = .decoder c) :=
      exec_controlInstr_of_body hp hport hl c v flags length ht
    exact ⟨hexec .synStream 0x0001 rfl, hexec .synReply 0x0002 rfl, hexec .rstStream 0x0003 rfl,
      hexec .settings 0x0004 rfl, hexec .ping 0x0006 rfl, hexec .goaway 0x0007 rfl,
      hexec .headers 0x0008 rfl, hexec .windowUpdate 0x0009 rfl, hexec .xForwarded 0xF000 rfl⟩
  · rw [step_supply_body hev hport hp hl, ← header_decodeWord, decodeWord_of_headerType ht, hc,
      bodyEffect_controlInstr]
    rfl

/-! ### A SUPPLY that is not taken (R141, R142) -/

theorem supplyReady_of_waiting_phase {s : State}
    (h : s.phase = .busy ∨ s.phase = .error ∨ s.phase = .fatal) : supplyReady s = false := by
  rw [supplyReady]; rcases h with h | h | h <;> rw [h]

/-- Settles O17: outside HDR and BODY the port is not ready. -/
theorem supplyWaitsWhileNotReady : Obligations.SupplyWaitsWhileNotReady := by
  intro s hp
  refine ⟨fun i => exec_of_not_ready i s hp, fun b e hev => ?_⟩
  rw [step_supply hev]
  exact acceptSupply_of_not_ready (supplyReady_of_waiting_phase hp)

theorem acceptSupply_of_wrong_length {s : State} {c : Bytes} {port : List Bytes}
    (hp : s.phase = .hdr ∨ s.phase = .body) (hport : s.supplyPort = c :: port)
    (hl : c.length ≠ s.need.toNat) : acceptSupply s = .refused .wrongLengthSupply := by
  rcases hp with hp | hp
  · rw [acceptSupply, hp]
    simp only [fetchHeader, hport, if_neg hl]
  · rw [acceptSupply_of_body hp, exec_of_body _ _ hp, takeBody, hport]
    exact if_neg hl

/-- Settles O18: the chunk is the only one on the port, so its length decides. -/
theorem wrongLengthSupplyIsRefused : Obligations.WrongLengthSupplyIsRefused := by
  intro s e b hev hport hp hl
  rw [step_supply hev, hport]
  exact acceptSupply_of_wrong_length hp rfl hl

/-! ### The body decoder's answers and RESUME (R137 to R139) -/

theorem awaitsBodyAnswer_iff (s : State) :
    awaitsBodyAnswer s = true ↔ s.phase = .busy ∧ s.kvState = .idle := by
  simp [awaitsBodyAnswer]

theorem not_awaitsBodyAnswer {s : State} (h : s.phase ≠ .busy ∨ s.kvState ≠ .idle) :
    ¬ awaitsBodyAnswer s = true := by
  rwa [awaitsBodyAnswer_iff, not_and_or]

/-- Settles O20: the answer is taken exactly when it is awaited. -/
theorem bodyDoneEmitsTheFrame : Obligations.BodyDoneEmitsTheFrame := by
  intro s e f hev
  rw [step_cons hev]
  exact ⟨fun hp hk => if_pos ((awaitsBodyAnswer_iff s).2 ⟨hp, hk⟩),
    fun h => if_neg (not_awaitsBodyAnswer (s := s) h)⟩

/-- Settles O21: each of the three codes enters ERROR with its own error. -/
theorem bodyErrEntersError : Obligations.BodyErrEntersError := by
  intro s e code hev
  rw [step_cons hev]
  refine ⟨fun hp hk => ?_, fun h => if_neg (not_awaitsBodyAnswer (s := s) h)⟩
  refine (if_pos ((awaitsBodyAnswer_iff s).2 ⟨hp, hk⟩)).trans ?_
  cases code <;> rfl

/-- Settles O22: RESUME looks at PHASE alone. -/
theorem resumeReturnsFromError : Obligations.ResumeReturnsFromError := by
  intro s e hev
  rw [step_cons hev]
  refine ⟨fun hp => ?_, fun hp => ?_⟩
  · rw [takeEvent, resume]; simp only [hp]; rfl
  · rw [takeEvent, resume]
    cases hphase : s.phase with
    | error => exact absurd hphase hp
    | hdr | body | busy | fatal => rfl

end Sys2Proof.Proofs
end

section
/-! SUPPORT. The course of a frame (41_frame_controller.md R143, R144): how PHASE and NEED move in one
step, and what that step signals. -/

namespace Sys2Proof.Proofs

open Sys2Proof.Machine Sys2Proof.Laws Sys2Proof.Safety

/-! ### The output of one step -/

/-- The output that a step signals, if any, is an EMIT or a FAIL. -/
def outputEndsFrame (o : Option Output) : Bool := o.any endsFrame

theorem framesEnded_of_signalled {s t : State} {o : Option Output}
    (h : t.outputs = s.outputs ++ o.toList) :
    framesEnded t = framesEnded s + (if outputEndsFrame o then 1 else 0) := by
  rw [framesEnded, framesEnded, h, List.filter_append, List.length_append]
  cases o with
  | none => rfl
  | some x => cases x <;> rfl

/-! ### How PHASE and NEED move -/

/-- One step on the way of a frame, from the values `p` of PHASE and `n` of NEED to the state `t`, with
the first entry `e` of `events` and the output `o`: PHASE and NEED after it, and whether the output ends
the frame. -/
inductive FrameMove (e : Option Event) (p : Phase) (n : BitVec 24) (o : Option Output) (t : State) :
    Prop
  | stays : outputEndsFrame o = false → t.phase = p → t.need = n → FrameMove e p n o t
  | header : outputEndsFrame o = false → p = .hdr → t.phase = .body →
      t.need = (hdrDecode t.hdrReg).length → FrameMove e p n o t
  | dispatch : outputEndsFrame o = false → p = .body → t.phase = .busy → FrameMove e p n o t
  | emit : outputEndsFrame o = true → p = .body ∨ p = .busy → t.phase = .hdr → t.need = 8 →
      FrameMove e p n o t
  | fail : outputEndsFrame o = true → p = .hdr ∨ p = .busy → t.phase = .error ∨ t.phase = .fatal →
      t.need = 0 → FrameMove e p n o t
  | restart : outputEndsFrame o = false → e = some .reset ∨ p = .error → t.phase = .hdr →
      t.need = 8 → FrameMove e p n o t

/-- From `s` to `t` at most one output is signalled, and PHASE and NEED move as a frame's course has it. -/
def Follows (e : Option Event) (s t : State) : Prop :=
  ∃ o : Option Output, t.outputs = s.outputs ++ o.toList ∧ FrameMove e s.phase s.need o t

section
variable {e : Option Event} {s t : State}

theorem follows_of_silent (ho : t.outputs = s.outputs) (hp : t.phase = s.phase)
    (hn : t.need = s.need) : Follows e s t :=
  ⟨none, by simp [ho], .stays rfl hp hn⟩

theorem follows_of_signalled {o : Output} (ho : t.outputs = s.outputs ++ [o])
    (hend : endsFrame o = false) (hp : t.phase = s.phase) (hn : t.need = s.need) : Follows e s t :=
  ⟨some o, ho, .stays hend hp hn⟩

theorem errPhase_error_or_fatal (x : Err) : errPhase x = .error ∨ errPhase x = .fatal := by
  cases x <;> simp [errPhase]

theorem follows_supplyHeader (r : Bool) (i : Instr) (hp : s.phase = .hdr) :
    Follows e s (supplyHeader r i s) := by
  have hneed : i.bodyLength = (hdrDecode (encodeWord i)).length := by
    rw [hdrDecode_length, lengthField_encodeWord]
  rcases supplyHeader_cases r i s with ⟨-, heq⟩ | ⟨v, -, -, heq⟩ | ⟨v, -, -, heq⟩ <;> rw [heq]
  · exact ⟨none, by simp, .header rfl hp rfl hneed⟩
  · exact ⟨none, by simp, .header rfl hp rfl hneed⟩
  · exact ⟨some _, raise_outputs _ s, .fail rfl (.inl hp) (.inr rfl) rfl⟩

theorem follows_completeFrame (f : Frame) (hp : s.phase = .body ∨ s.phase = .busy) :
    Follows e s (completeFrame f s) :=
  ⟨some _, completeFrame_outputs f s, .emit rfl hp rfl rfl⟩

theorem follows_bodyEffect (i : Instr) (b : Bytes) (hp : s.phase = .body) :
    Follows e s (bodyEffect i b s) := by
  rcases bodyEffect_cases i b s with ⟨f, heq⟩ | ⟨c, heq, -⟩ <;> rw [heq]
  · exact follows_completeFrame f (.inl hp)
  · exact ⟨some _, dispatchBody_outputs c _ b s, .dispatch rfl hp rfl⟩

theorem follows_nextPair (s : State) : Follows e s (nextPair s) := by
  rcases nextPair_cases s with ⟨-, heq⟩ | ⟨-, heq⟩ <;> rw [heq]
  · exact follows_of_signalled (kvComplete_outputs s) rfl rfl rfl
  · exact follows_of_silent rfl rfl rfl

/-- The KV unit's own steps end no frame and leave PHASE and NEED alone (R170). -/
theorem follows_kvStep (hstep : kvStep s = .next t) : Follows e s t := by
  rcases kvStep_cases hstep with ⟨-, rfl⟩ | ⟨-, rfl⟩ | ⟨-, -, rfl⟩ | ⟨-, -, rfl⟩ | ⟨-, -, rfl⟩ |
    ⟨-, -, rfl⟩ | ⟨-, -, rfl⟩
  · exact follows_of_silent rfl rfl rfl
  · exact follows_of_signalled (kvFailTruncated_outputs s) rfl rfl rfl
  · exact follows_nextPair { s with kvRem := _, kvPos := _ }
  · exact follows_of_silent rfl rfl rfl
  · exact follows_of_silent rfl rfl rfl
  · exact follows_of_silent rfl rfl rfl
  · exact follows_nextPair { s with kvPos := _, kvPairs := _, kvRem := _ }

theorem follows_change (hc : Change e s t) : Follows e s t := by
  cases hc with
  | header i c port _ hp => exact follows_supplyHeader (s := { s with supplyPort := port }) true i hp
  | body c port _ hp => exact follows_bodyEffect (s := { s with supplyPort := port }) _ c hp
  | kv _ _ _ hstep => exact follows_kvStep hstep
  | bodyDone f _ hp => exact follows_completeFrame f (.inr hp)
  | bodyErr c _ hp =>
    exact ⟨some _, raise_outputs _ s, .fail rfl (.inr hp) (errPhase_error_or_fatal _) rfl⟩
  | kvStart | overflow | decompErr => exact follows_of_signalled (signal_outputs _ s) rfl rfl rfl
  | idle | decompOk | withdraw => exact follows_of_silent rfl rfl rfl
  | resume _ hp => exact ⟨none, by simp, .restart rfl (.inr hp) rfl rfl⟩
  | reset he => exact ⟨none, by simp, .restart rfl (.inl he) rfl rfl⟩

/-- PHASE, NEED and the outputs are not touched when a transaction is taken off the list. -/
theorem follows_step (hstep : step s = .next t) : Follows s.events.head? s t := by
  obtain ⟨port, -, hc⟩ := step_cases hstep
  exact (follows_change hc :)

end

/-! ### What is asked for next (R143) -/

/-- Settles O19: each move but the dispatch says what NEED is after it. -/
theorem requestCountsFollowTheFrame : Obligations.RequestCountsFollowTheFrame := by
  intro s t hstep
  obtain ⟨o, -, hmove⟩ := follows_step hstep
  have hready (h : t.phase = .hdr ∨ t.phase = .body) := (supplyReady_iff t).2 h
  refine ⟨fun hs ht => ⟨?header, hready (.inr ht)⟩, fun hs ht => ⟨?emit, hready (.inl ht)⟩,
    fun ht hne => ⟨?fail, supplyReady_of_waiting_phase (.inr ht)⟩,
    fun ht heq => ⟨?stays, supplyReady_of_waiting_phase (.inr ht)⟩⟩
  case header =>
    cases hmove with
    | header _ _ _ hn => exact hn
    | stays | dispatch | emit | fail | restart => grind
  case emit =>
    cases hmove with
    | emit _ _ _ hn | restart _ _ _ hn => exact hn
    | stays | header | dispatch | fail => grind
  case fail =>
    cases hmove with
    | fail _ _ _ hn => exact hn
    | stays | header | dispatch | emit | restart => grind
  case stays =>
    cases hmove with
    | stays _ _ hn => exact hn
    | header | dispatch | emit | fail | restart => grind

/-! ### What ends a frame (R144) -/

/-- Settles O45: the output of a move ends the frame exactly where the move ends it. -/
theorem eachFrameEndsExactlyOnce : Obligations.EachFrameEndsExactlyOnce := by
  intro s t hstep hreset
  obtain ⟨o, ho, hmove⟩ := follows_step hstep
  refine ⟨⟨o.toList, ho, o.length_toList_le⟩, ?_⟩
  rw [framesEnded_of_signalled ho]
  refine congrArg (framesEnded s + ·) (if_congr ?_ rfl rfl)
  cases hmove with
  | stays | header | dispatch | emit | fail | restart => grind

end Sys2Proof.Proofs
end

section
/-! SUPPORT. What an instruction leaves unchanged, in each phase (41_frame_controller.md R131 to R136):
one lemma for the registers of each part of the block, over all classes, then the two groups of classes. -/

namespace Sys2Proof.Proofs

open Sys2Proof.Machine Sys2Proof.Laws

/-! ### The registers every instruction keeps -/

/-- From `s` to `t` the KV unit's registers and the transactions to come stay as they are. -/
structure KvKept (s t : State) : Prop where
  kvState : t.kvState = s.kvState
  kvW : t.kvW = s.kvW
  kvBuf : t.kvBuf = s.kvBuf
  kvPos : t.kvPos = s.kvPos
  kvRem : t.kvRem = s.kvRem
  kvNlen : t.kvNlen = s.kvNlen
  kvVlen : t.kvVlen = s.kvVlen
  kvName : t.kvName = s.kvName
  kvPairs : t.kvPairs = s.kvPairs
  events : t.events = s.events

/-- From `s` to `t` the header's registers and ERR stay as they are. -/
structure HeaderKept (s t : State) : Prop where
  hdrReg : t.hdrReg = s.hdrReg
  verValid : t.verValid = s.verValid
  ver : t.ver = s.ver
  err : t.err = s.err

theorem kvKept_refl (s : State) : KvKept s s := by constructor <;> rfl

theorem headerKept_refl (s : State) : HeaderKept s s := by constructor <;> rfl

theorem kvKept_supplyHeader (r : Bool) (i : Instr) (s : State) : KvKept s (supplyHeader r i s) := by
  rcases supplyHeader_cases r i s with ⟨-, heq⟩ | ⟨v, -, -, heq⟩ | ⟨v, -, -, heq⟩ <;> rw [heq] <;>
    constructor <;> simp

theorem supplyHeader_bodyBuf (r : Bool) (i : Instr) (s : State) :
    (supplyHeader r i s).bodyBuf = s.bodyBuf := by
  rcases supplyHeader_cases r i s with ⟨-, heq⟩ | ⟨v, -, -, heq⟩ | ⟨v, -, -, heq⟩ <;> simp [heq]

theorem supplyHeader_supplyPort (r : Bool) (i : Instr) (s : State) :
    (supplyHeader r i s).supplyPort = s.supplyPort := by
  rcases supplyHeader_cases r i s with ⟨-, heq⟩ | ⟨v, -, -, heq⟩ | ⟨v, -, -, heq⟩ <;> simp [heq]

/-- A body leaves the KV unit and the header's registers alone, whatever its class does with it. -/
theorem kept_bodyEffect (i : Instr) (b : Bytes) (s : State) :
    KvKept s (bodyEffect i b s) ∧ HeaderKept s (bodyEffect i b s) := by
  rcases bodyEffect_cases i b s with ⟨f, heq⟩ | ⟨c, heq, -⟩ <;> rw [heq] <;>
    exact ⟨by constructor <;> rfl, by constructor <;> rfl⟩

/-! ### An instruction, phase by phase -/

/-- Everything an instruction can do: SUPPLY_HEADER in HDR, its body effect in BODY, else nothing. -/
theorem exec_cases {i : Instr} {s t : State} (h : exec i s = .next t) :
    (s.phase = .hdr ∧ t = supplyHeader true i s) ∨
    (∃ b port, s.phase = .body ∧ s.supplyPort = b :: port ∧
      t = bodyEffect i b { s with supplyPort := port }) ∨
    ((s.phase = .body → s.supplyPort = []) ∧ s.phase ≠ .hdr ∧ t = s) := by
  by_cases hhdr : s.phase = .hdr
  · rw [exec_of_hdr i s hhdr] at h
    exact .inl ⟨hhdr, (Host.Outcome.next.inj h).symm⟩
  by_cases hbody : s.phase = .body
  · rw [exec_of_body i s hbody] at h
    rcases takeBody_next h with ⟨hport, rfl⟩ | ⟨b, port, hport, -, rfl⟩
    · exact .inr (.inr ⟨fun _ => hport, hhdr, rfl⟩)
    · exact .inr (.inl ⟨b, port, hbody, hport, rfl⟩)
  · have hwaits : s.phase = .busy ∨ s.phase = .error ∨ s.phase = .fatal := by
      cases hp : s.phase <;> simp_all
    rw [exec_of_not_ready i s hwaits] at h
    exact .inr (.inr ⟨fun hp => absurd hp hbody, hhdr, (Host.Outcome.next.inj h).symm⟩)

section
variable {i : Instr} {s t : State} (h : exec i s = .next t)
include h

theorem exec_keeps_kv : KvKept s t := by
  rcases exec_cases h with ⟨-, rfl⟩ | ⟨b, port, -, -, rfl⟩ | ⟨-, -, rfl⟩
  · exact kvKept_supplyHeader true i s
  · exact { (kept_bodyEffect i b { s with supplyPort := port }).1 with }
  · exact kvKept_refl t

theorem exec_keeps_header (hp : s.phase ≠ .hdr) : HeaderKept s t := by
  rcases exec_cases h with ⟨hhdr, -⟩ | ⟨b, port, -, -, rfl⟩ | ⟨-, -, rfl⟩
  · exact absurd hhdr hp
  · exact { (kept_bodyEffect i b { s with supplyPort := port }).2 with }
  · exact headerKept_refl t

theorem exec_keeps_port (hp : s.phase ≠ .body) :
    t.supplyPort = s.supplyPort ∧ t.bodyBuf = s.bodyBuf := by
  rcases exec_cases h with ⟨-, rfl⟩ | ⟨b, port, hbody, -, -⟩ | ⟨-, -, rfl⟩
  · exact ⟨supplyHeader_supplyPort true i s, supplyHeader_bodyBuf true i s⟩
  · exact absurd hbody hp
  · exact ⟨rfl, rfl⟩

/-- An instruction whose body effect leaves BODY_BUF alone never writes it. -/
theorem exec_keeps_bodyBuf (hi : ∀ b s, (bodyEffect i b s).bodyBuf = s.bodyBuf) :
    t.bodyBuf = s.bodyBuf := by
  rcases exec_cases h with ⟨-, rfl⟩ | ⟨b, port, -, -, rfl⟩ | ⟨-, -, rfl⟩
  · exact supplyHeader_bodyBuf true i s
  · exact hi b _
  · rfl

/-- An instruction whose body effect stores the body puts the chunk at the port in BODY_BUF. -/
theorem exec_bodyBuf_of_body (hi : ∀ b s, (bodyEffect i b s).bodyBuf = b) (hp : s.phase = .body) :
    t.bodyBuf = s.supplyPort.headD s.bodyBuf := by
  rcases exec_cases h with ⟨hhdr, -⟩ | ⟨b, port, -, hport, rfl⟩ | ⟨hport, -, rfl⟩
  · rw [hp] at hhdr; cases hhdr
  · rw [hport, hi]; rfl
  · rw [hport hp]; rfl

/-- A header without a version is neither checked nor pinned (R89, R131). -/
theorem exec_keeps_version_of_data (hv : i.version? = none) :
    t.verValid = s.verValid ∧ t.ver = s.ver ∧ t.err = s.err := by
  by_cases hp : s.phase = .hdr
  · rw [exec_of_hdr i s hp, supplyHeader_of_data hv] at h
    cases h; exact ⟨rfl, rfl, rfl⟩
  · obtain ⟨-, hvalid, hver, herr⟩ := exec_keeps_header h hp
    exact ⟨hvalid, hver, herr⟩

end

/-! ### The two groups of classes -/

/-- A space's bytes are those of its buffer. -/
theorem readByte_congr {s t : State} (hbody : t.bodyBuf = s.bodyBuf) (hkv : t.kvBuf = s.kvBuf)
    (sp : Space) (off : Nat) : readByte t sp off = readByte s sp off := by
  cases sp <;> simp [readByte, spaceBytes, hbody, hkv]

/-- Settles O52: the three classes' frames are built from the body without storing it. -/
theorem selfHandledClassesFrame : Obligations.SelfHandledClassesFrame := by
  intro i s t hi h
  have hbuf : t.bodyBuf = s.bodyBuf := by
    rcases hi with ⟨id, f, l, rfl⟩ | ⟨v, f, l, rfl⟩ | ⟨v, ty, f, l, rfl⟩ <;>
      exact exec_keeps_bodyBuf h fun _ _ => rfl
  have kv := exec_keeps_kv h
  refine ⟨⟨kv.kvState, kv.kvW, kv.kvBuf, kv.kvPos, kv.kvRem, kv.kvNlen, kv.kvVlen, kv.kvName,
    kv.kvPairs, hbuf, kv.events⟩, fun hp => ?_, fun hp => (exec_keeps_port h hp).1, ?_,
    readByte_congr hbuf kv.kvBuf⟩
  · obtain ⟨hreg, hvalid, hver, herr⟩ := exec_keeps_header h hp
    exact ⟨hreg, hvalid, hver, herr⟩
  · rintro ⟨id, f, l, rfl⟩
    exact exec_keeps_version_of_data h rfl

/-- Settles O53: the nine classes store the body, and nothing else of the two spaces. -/
theorem dispatchedClassesFrame : Obligations.DispatchedClassesFrame := by
  intro i s t hi h
  have hbuf : s.phase = .body → t.bodyBuf = s.supplyPort.headD s.bodyBuf := by
    rcases hi with ⟨v, f, l, rfl⟩ | ⟨v, f, l, rfl⟩ | ⟨v, f, l, rfl⟩ | ⟨v, f, l, rfl⟩ |
      ⟨v, f, l, rfl⟩ | ⟨v, f, l, rfl⟩ | ⟨v, f, l, rfl⟩ | ⟨v, f, l, rfl⟩ | ⟨v, f, l, rfl⟩ <;>
      exact exec_bodyBuf_of_body h fun _ _ => rfl
  have kv := exec_keeps_kv h
  refine ⟨⟨kv.kvState, kv.kvW, kv.kvBuf, kv.kvPos, kv.kvRem, kv.kvNlen, kv.kvVlen, kv.kvName,
    kv.kvPairs, kv.events⟩, fun hp => ?_, exec_keeps_port h, fun off => ?_, fun off => ?_⟩
  · obtain ⟨hreg, hvalid, hver, herr⟩ := exec_keeps_header h hp
    exact ⟨hreg, hvalid, hver, herr⟩
  · rw [readByte, spaceBytes, kv.kvBuf]; rfl
  · by_cases hp : s.phase = .body
    · rw [if_pos hp, readByte, spaceBytes, hbuf hp]
      cases s.supplyPort <;> rfl
    · rw [if_neg hp, readByte, spaceBytes, (exec_keeps_port h hp).2]; rfl

end Sys2Proof.Proofs
end

section
/-! SUPPORT. A PING from its header to its frame (95_test_vectors.md S-01): the header, the body and the
reference body decoder's answer, step by step. -/

namespace Sys2Proof.Proofs

open Sys2Proof.Machine Sys2Proof.Laws Sys2Proof.Safety

theorem run_two {s t u : State} (h1 : step s = .next t) (h2 : step t = .next u) :
    Host.Core.run core 2 s = .next u := by
  simp only [Host.Core.run, show core.step = step from rfl, h1, h2]

/-- A control header that passes the check and its body, presented one after the other in HDR: the body
effect runs on the state that SUPPLY_HEADER left. -/
theorem run_header_body {s : State} {i : Instr} {v : BitVec 15} {b : Bytes} {e : List Event}
    (hwf : i.wf = true) (hv : i.version? = some v) (hp : s.phase = .hdr) (hneed : s.need = 8)
    (hport : s.supplyPort = []) (hpass : versionPasses i s) (hl : b.length = i.bodyLength.toNat)
    (hev : s.events = .supply (encode i) :: .supply b :: e) :
    Host.Core.run core 2 s = .next (bodyEffect i b
      { acceptHeader i (pinVersion v { s with events := .supply b :: e }) with events := e }) := by
  have hok : versionCheckOk true v s = true := (versionCheckOk_true_iff v s).2 (hpass v hv)
  refine run_two (t := acceptHeader i (pinVersion v { s with events := .supply b :: e })) ?_ ?_
  · rw [step_supply_hdr hev hport hp hneed (bytesOfWord_length _), encode, wordOfBytes_bytesOfWord,
      decodeWord_encodeWord hwf, supplyHeader_of_passes hv (by exact hok)]
  · rw [step_supply_body (b := b) (e := e) (by simp) (by simp [hport]) rfl (by exact hl)]
    exact congrArg (fun j => Host.Outcome.next (bodyEffect j b _)) (decodeWord_encodeWord hwf)

/-! ### The reference body decoder's answer (R137, R223) -/

theorem awaitsBodyAnswer_of_contractMove {s : State} {m : DecoderMove}
    (h : contractMove s = some m) : awaitsBodyAnswer s = true := by
  rw [contractMove] at h
  split at h
  · assumption
  · cases h

/-- On a DISPATCH the decoder makes its first move, on the body and the version it was given. -/
theorem contractMove_of_dispatch {s : State} {c d : BodyClass} {r : FrameHeader} {b : Bytes}
    {v : Option (BitVec 15)} (ha : awaitsBodyAnswer s = true)
    (hc : classOf s.hdrReg = .control (.decoder c))
    (ho : s.outputs.getLast? = some (.dispatch d r b v)) :
    contractMove s = some (decodeBody c s.ver s.bodyBuf) := by
  rw [contractMove, if_pos ha, hc, ho]

theorem step_presentMove_done {s : State} {f : Frame} (h : contractMove s = some (.done f)) :
    step (presentMove s) = .next (completeFrame f s) := by
  have hpresent : presentMove s = { s with events := .bodyDone f :: s.events } := by
    rw [presentMove, h]; rfl
  rw [hpresent, step_cons rfl]
  exact if_pos (awaitsBodyAnswer_of_contractMove h)

/-- A DISPATCH that the decoder answers with a frame at once: the frame is emitted (R137, R223). -/
theorem step_presentMove_dispatchBody {s : State} {c : BodyClass} {r : FrameHeader} {b : Bytes}
    {f : Frame} (hk : s.kvState = .idle) (hc : classOf s.hdrReg = .control (.decoder c))
    (hf : decodeBody c s.ver b = .done f) :
    step (presentMove (dispatchBody c r b s)) = .next (completeFrame f (dispatchBody c r b s)) := by
  have hmove := contractMove_of_dispatch (s := dispatchBody c r b s)
    ((awaitsBodyAnswer_iff _).2 ⟨rfl, hk⟩) hc List.getLast?_concat
  exact step_presentMove_done (hmove.trans (congrArg some hf))

theorem decodePing_of_length {b : Bytes} (hl : b.length = 4) :
    decodePing b = .done (.ping (field32 b 0)) :=
  if_neg (by rw [hl]; decide)

/-- Settles O60: the body effect of PING is its dispatch, and the decoder answers it with the id. -/
theorem pingIsDecodedEndToEnd : Obligations.PingIsDecodedEndToEnd := by
  intro s v flags b hp hneed hk hport hpass hl hev
  have hrun := run_header_body rfl rfl hp hneed hport hpass hl hev
  rw [bodyEffect] at hrun
  refine ⟨_, _, hrun, step_presentMove_dispatchBody (by simp [hk])
    (by simp [classOf, encodeWord, sel]) (decodePing_of_length hl), ?_, rfl, rfl⟩
  simp [pinnedVersion, field32]

end Sys2Proof.Proofs
end

section
/-! SUPPORT. The KV unit's transactions (42_kv_decoder.md R171 to R178), each once as what the step
gives: the three input transactions, then the five read steps. -/

namespace Sys2Proof.Proofs

open Sys2Proof.Machine Sys2Proof.Laws Sys2Proof.Safety

/-! ### Input transactions (R171 to R173) -/

/-- Settles O26: KV_START looks at PHASE, KV_STATE and VER_VALID alone. -/
theorem kvStartRequestsDecompression : Obligations.KvStartRequestsDecompression := by
  intro s e c hev
  rw [step_cons hev]
  refine ⟨fun hp hk hv => if_pos ⟨hp, hk, hv⟩, fun h => if_neg ?_⟩
  rintro ⟨hp, hk, hv⟩
  rcases h with h | h | h
  · exact h hp
  · exact h hk
  · exact Bool.false_ne_true (h.symm.trans hv)

theorem fitsKvBuf_iff (max : Option Nat) (n : Nat) :
    fitsKvBuf max n = true ↔ ∀ m, max = some m → n ≤ m := by
  cases max <;> simp [fitsKvBuf]

/-- Settles O27: in DECOMP the buffer's length decides, by whichever maximum there is. -/
theorem decompOkLoadsTheBuffer : Obligations.DecompOkLoadsTheBuffer := by
  intro s e d hev
  refine ⟨step_cons hev, fun max => ⟨fun hk hfit => ?_, fun m hk hmax hlong => ?_, fun hk => ?_⟩⟩
  · exact (if_pos hk).trans (if_pos ((fitsKvBuf_iff max _).2 hfit))
  · refine (if_pos hk).trans (if_neg fun hfit => ?_)
    exact Nat.not_le.2 hlong ((fitsKvBuf_iff max _).1 hfit m hmax)
  · exact if_neg hk

/-- Settles O28: DECOMP_ERR looks at KV_STATE alone. -/
theorem decompErrPassesThePayloadOn : Obligations.DecompErrPassesThePayloadOn := by
  intro s e p hev
  rw [step_cons hev]
  exact ⟨fun hk => if_pos hk, fun hk => if_neg hk⟩

/-! ### Field reads at KV_POS -/

section
variable {s : State}

theorem readPrefix_of_short (k : BitVec 32 → State → State)
    (h : s.kvBuf.length < s.kvPos + widthBytes s.kvW) :
    readPrefix k s = .next (kvFailTruncated s) :=
  (readPrefix_eq k s).trans (if_pos h)

theorem readPrefix_of_available (k : BitVec 32 → State → State)
    (h : s.kvPos + widthBytes s.kvW ≤ s.kvBuf.length) :
    readPrefix k s = .next (k (BitVec.ofNat 32 (be s.kvBuf s.kvPos (widthBytes s.kvW)))
      { s with kvPos := s.kvPos + widthBytes s.kvW }) :=
  (readPrefix_eq k s).trans (if_neg (Nat.not_lt.2 h))

theorem readString_of_short {n : Nat} (k : Bytes → State → State)
    (h : s.kvBuf.length < s.kvPos + n) : readString n k s = .next (kvFailTruncated s) :=
  (readString_eq n k s).trans (if_pos h)

theorem readString_of_available {n : Nat} (k : Bytes → State → State)
    (h : s.kvPos + n ≤ s.kvBuf.length) :
    readString n k s = .next (k (slice s.kvBuf s.kvPos n) { s with kvPos := s.kvPos + n }) :=
  (readString_eq n k s).trans (if_neg (Nat.not_lt.2 h))

theorem nextPair_of_last (h : s.kvRem = 0) : nextPair s = kvComplete s := if_pos h

theorem nextPair_of_more (h : s.kvRem ≠ 0) : nextPair s = { s with kvState := .nlen } := if_neg h

/-- A 32-bit register takes a field of KV_W bytes with no bit lost (R32, R33). -/
theorem fieldValue_toNat (b : Bytes) (off : Nat) (w : KvWidth) :
    (BitVec.ofNat 32 (be b off (widthBytes w))).toNat = be b off (widthBytes w) := by
  have hlt := be_lt b off (widthBytes w)
  have hwidth : 256 ^ widthBytes w ≤ 2 ^ 32 := by cases w <;> decide
  rw [BitVec.toNat_ofNat, Nat.mod_eq_of_lt (hlt.trans_le hwidth)]

/-! ### The five read steps (R174 to R178) -/

section
variable (hev : s.events = [])
include hev

theorem step_reading (hr : kvReading s.kvState = true) : step s = kvStep s := by
  rw [step, nextStep, hev]
  exact advance_of_reading hr

theorem step_count (hk : s.kvState = .count) : step s = kvCount s := by
  rw [step_reading hev (by rw [hk]; rfl), kvStep, hk]

theorem step_nlen (hk : s.kvState = .nlen) : step s = kvReadNlen s := by
  rw [step_reading hev (by rw [hk]; rfl), kvStep, hk]

theorem step_name (hk : s.kvState = .name) : step s = kvReadName s := by
  rw [step_reading hev (by rw [hk]; rfl), kvStep, hk]

theorem step_vlen (hk : s.kvState = .vlen) : step s = kvReadVlen s := by
  rw [step_reading hev (by rw [hk]; rfl), kvStep, hk]

theorem step_value (hk : s.kvState = .value) : step s = kvReadValue s := by
  rw [step_reading hev (by rw [hk]; rfl), kvStep, hk]

end

end

/-- Settles O29: a count that is there is loaded, and no bit of it is lost, so the register is 0
exactly where the field is. -/
theorem kvCountReadsTheCount : Obligations.KvCountReadsTheCount := by
  intro s hev hk w
  rw [step_count hev hk]
  refine ⟨readPrefix_of_short _, fun hlen hzero => ?_, fun hlen hne => ?_⟩ <;>
    refine (readPrefix_of_available _ hlen).trans (congrArg _ ?_)
  · rw [show be s.kvBuf s.kvPos (widthBytes s.kvW) = 0 from hzero]
    exact nextPair_of_last rfl
  · refine nextPair_of_more fun hreg => hne ?_
    exact (fieldValue_toNat s.kvBuf s.kvPos s.kvW).symm.trans (congrArg BitVec.toNat hreg)

/-- Settles O30: both lengths are the same read, into two registers. -/
theorem kvPrefixesAreLoaded : Obligations.KvPrefixesAreLoaded := by
  intro s hev hk w
  refine ⟨fieldValue_toNat _ _ _, fun hshort => ?_, fun hlen hnlen => ?_, fun hlen hvlen => ?_⟩
  · rcases hk with hk | hk
    · exact (step_nlen hev hk).trans (readPrefix_of_short _ hshort)
    · exact (step_vlen hev hk).trans (readPrefix_of_short _ hshort)
  · exact (step_nlen hev hnlen).trans (readPrefix_of_available _ hlen)
  · exact (step_vlen hev hvlen).trans (readPrefix_of_available _ hlen)

/-- Settles O31: the name is one string read of KV_NLEN bytes. -/
theorem kvNameIsKept : Obligations.KvNameIsKept := by
  intro s hev hk
  rw [step_name hev hk]
  exact ⟨readString_of_short _, readString_of_available _⟩

/-- Settles O32: the value is one string read, and KV_REM counted down decides what follows. -/
theorem kvValueInsertsThePair : Obligations.KvValueInsertsThePair := by
  intro s hev hk n pairs
  rw [step_value hev hk]
  refine ⟨readString_of_short _, fun hlen hone => ?_, fun hlen hne => ?_⟩ <;>
    refine (readString_of_available _ hlen).trans (congrArg _ ?_)
  · rw [hone]
    exact nextPair_of_last rfl
  · exact nextPair_of_more (sub_ne_zero.2 hne)

/-! ### Other transactions in a read state (R170) -/

/-- Settles O36: in a read state the block is BUSY and awaits no host's answer, so the port waits and
every other transaction meets its refusal. -/
theorem readStatesTakeNoOtherTransaction : Obligations.ReadStatesTakeNoOtherTransaction := by
  intro s e rest h hr hev hreset hadvance
  rw [step_cons hev]
  have hidle : s.kvState ≠ .idle := ne_idle_of_kvReading hr
  have hdecomp : s.kvState ≠ .decomp := fun hk => by rw [hk] at hr; cases hr
  have hbusy : s.phase = .busy := h.kv_in_busy hidle
  have hanswer := not_awaitsBodyAnswer (s := s) (.inr hidle)
  cases e with
  | supply b =>
    have hwaits := supplyReady_of_waiting_phase (.inl hbusy)
    exact .inr ⟨_, acceptSupply_of_not_ready (by exact hwaits), .inl ⟨b, rfl⟩⟩
  | withdraw => exact .inr ⟨_, rfl, .inr rfl⟩
  | bodyDone | bodyErr => exact .inl ⟨_, if_neg hanswer⟩
  | kvStart => exact .inl ⟨_, if_neg fun hstart => hidle hstart.2.1⟩
  | decompOk | decompErr => exact .inl ⟨_, if_neg hdecomp⟩
  | resume => exact .inl ⟨.resumeOutsideError, by rw [takeEvent, resume]; simp only [hbusy]⟩
  | reset => exact absurd rfl hreset
  | advance => exact absurd rfl hadvance

end Sys2Proof.Proofs
end

section
/-! SUPPORT. The pair functions of 42_kv_decoder.md (R179, R180) and KV_PARSE (R183): the loop as a
chain of reads, and what follows from a parse that succeeds (R184 to R186). -/

namespace Sys2Proof.Proofs

open Sys2Proof.Machine Sys2Proof.Laws

/-! ### STRIP and INSERT -/

/-- Settles O33: STRIP looks at the version and the first byte alone. -/
theorem stripTakesOneLeadingColon : Obligations.StripTakesOneLeadingColon := by
  refine ⟨fun rest => by rw [strip]; exact if_pos ⟨rfl, rfl⟩, fun name v h => ?_⟩
  cases name with
  | nil => rfl
  | cons c rest =>
    refine if_neg fun ⟨hv, hc⟩ => ?_
    exact h.elim (· hv) (· (congrArg some hc))

theorem insertPair_of_mem {pairs : Pairs} {name : Bytes} (h : name ∈ pairs.map Prod.fst)
    (value : Bytes) :
    insertPair pairs name value = pairs.map (fun p => if p.1 = name then (name, value) else p) := by
  refine (if_pos (by simpa using h)).trans (List.map_congr_left fun p _ => ?_)
  by_cases hp : p.1 = name <;> simp [hp]

/-- Settles O34: a name that is there is replaced in place, and a new one is appended. -/
theorem insertKeepsOrderAndTakesLastValue : Obligations.InsertKeepsOrderAndTakesLastValue := by
  intro pairs name value
  refine ⟨fun hnew => insertPair_of_new hnew value, fun hmem => ⟨?_, fun k => ?_⟩,
    insertPair_nodup pairs name value⟩
  · rw [insertPair_names, if_pos hmem]
  · rw [insertPair_of_mem hmem, List.getElem?_map]

/-! ### The loop of KV_PARSE -/

/-- One pass of the loop: four reads, each of which can end the parse, and an insertion (R183). -/
theorem kvLoop_succ (d : Bytes) (v : BitVec 15) (rem pos : Nat) (pairs : Pairs) :
    kvLoop d v (rem + 1) pos pairs =
      (memRead d pos (widthBytes (widthOf v))).bind fun nlen =>
      (memSlice d (pos + widthBytes (widthOf v)) nlen).bind fun name =>
      (memRead d (pos + widthBytes (widthOf v) + nlen) (widthBytes (widthOf v))).bind fun vlen =>
      (memSlice d (pos + widthBytes (widthOf v) + nlen + widthBytes (widthOf v)) vlen).bind
        fun value =>
      kvLoop d v rem (pos + widthBytes (widthOf v) + nlen + widthBytes (widthOf v) + vlen)
        (insertPair pairs (strip name v) value) := by
  rw [kvLoop]
  iterate 4
    split <;> rename_i hread <;> rw [hread]
    · rfl
    rw [Option.bind_some]

theorem kvParse_eq_bind (d : Bytes) (v : BitVec 15) :
    kvParse d v = (memRead d 0 (widthBytes (widthOf v))).bind fun count =>
      kvLoop d v count (widthBytes (widthOf v)) [] := by
  rw [kvParse]; cases memRead d 0 (widthBytes (widthOf v)) <;> rfl

/-- What holds of the pairs at the start and is kept by every insertion holds of the pairs delivered;
`P` sees how many pairs remain. -/
theorem kvLoop_induction {P : Nat → Pairs → Prop} {d : Bytes} {v : BitVec 15}
    (hinsert : ∀ rem pairs name value, P (rem + 1) pairs → P rem (insertPair pairs name value))
    {rem pos : Nat} {pairs out : Pairs} (h : kvLoop d v rem pos pairs = some out)
    (hstart : P rem pairs) : P 0 out := by
  induction rem generalizing pos pairs with
  | zero => exact Option.some.inj h ▸ hstart
  | succ rem ih =>
    simp only [kvLoop_succ, Option.bind_eq_some_iff] at h
    obtain ⟨nlen, -, name, -, vlen, -, value, -, hrest⟩ := h
    exact ih hrest (hinsert _ _ _ _ hstart)

/-- Settles O39: each pass inserts one pair, which adds at most one and keeps the names distinct. -/
theorem parseDeliversAtMostCountPairs : Obligations.ParseDeliversAtMostCountPairs := by
  intro d v pairs h
  simp only [kvParse_eq_bind, Option.bind_eq_some_iff, memRead_eq_some] at h
  obtain ⟨count, ⟨-, rfl⟩, hloop⟩ := h
  refine ⟨?_, kvLoop_induction (P := fun _ ps => (ps.map Prod.fst).Nodup)
    (fun _ => insertPair_nodup) hloop List.nodup_nil⟩
  refine kvLoop_induction (P := fun rem ps => ps.length + rem ≤ be d 0 (widthBytes (widthOf v)))
    (fun rem ps name value hle => ?_) hloop (by simp)
  have hone := insertPair_length_le ps name value
  omega

/-! ### Trailing bytes (R184) -/

section
variable {d : Bytes} (trailing : Bytes)

theorem memRead_append {off n x : Nat} (h : memRead d off n = some x) :
    memRead (d ++ trailing) off n = some x := by
  obtain ⟨hlen, rfl⟩ := memRead_eq_some.1 h
  exact memRead_eq_some.2 ⟨by rw [List.length_append]; omega, (be_append _ _ _ _ hlen).symm⟩

theorem memSlice_append {off n : Nat} {x : Bytes} (h : memSlice d off n = some x) :
    memSlice (d ++ trailing) off n = some x := by
  obtain ⟨hlen, rfl⟩ := memSlice_eq_some.1 h
  exact memSlice_eq_some.2 ⟨by rw [List.length_append]; omega, (slice_append _ _ _ _ hlen).symm⟩

theorem kvLoop_append {v : BitVec 15} {rem pos : Nat} {pairs out : Pairs}
    (h : kvLoop d v rem pos pairs = some out) :
    kvLoop (d ++ trailing) v rem pos pairs = some out := by
  induction rem generalizing pos pairs with
  | zero => exact h
  | succ rem ih =>
    simp only [kvLoop_succ, Option.bind_eq_some_iff] at h ⊢
    obtain ⟨nlen, hnlen, name, hname, vlen, hvlen, value, hvalue, hrest⟩ := h
    exact ⟨nlen, memRead_append _ hnlen, name, memSlice_append _ hname, vlen,
      memRead_append _ hvlen, value, memSlice_append _ hvalue, ih hrest⟩

end

/-- Settles O38: every read of a parse that succeeds is within the buffer. -/
theorem trailingBytesAreIgnored : Obligations.TrailingBytesAreIgnored := by
  intro d trailing v pairs h
  simp only [kvParse_eq_bind, Option.bind_eq_some_iff] at h ⊢
  obtain ⟨count, hcount, hloop⟩ := h
  exact ⟨count, memRead_append _ hcount, kvLoop_append _ hloop⟩

/-! ### A block of the other version (R185) -/

theorem be_zero_two_eq_div {d : Bytes} (h : 4 ≤ d.length) : be d 0 2 = be d 0 4 / 65536 := by
  have htake := beAll_take (slice d 0 4) 2
  rw [show (slice d 0 4).take 2 = slice d 0 2 by simp [slice, List.take_take],
    show (slice d 0 4).length = 4 by simpa [slice] using h] at htake
  exact htake

/-- Settles O40: the two bytes read as the count are the high half of the four, which is 0. -/
theorem version3BlockReadAsVersion2IsEmpty : Obligations.Version3BlockReadAsVersion2IsEmpty := by
  intro d hlen hcount
  have hzero : memRead d 0 2 = some 0 :=
    memRead_eq_some.2 ⟨by omega, by rw [be_zero_two_eq_div hlen]; omega⟩
  rw [kvParse_eq_bind, show widthBytes (widthOf 2) = 2 from rfl, hzero]
  rfl

end Sys2Proof.Proofs
end

section
/-! SUPPORT. The KV unit's read steps compute KV_PARSE (42_kv_decoder.md R183): each read step is one
read of KV_PARSE, whatever that read gives, and the run of all of them follows the loop. -/

namespace Sys2Proof.Proofs

open Sys2Proof.Machine Sys2Proof.Laws

/-! ### What a run delivers -/

/-- From `s` to `t` the buffer, its field width and all that lies outside the KV unit stay, and no
transaction is to come. -/
structure BlockKept (s t : State) : Prop where
  kvBuf : t.kvBuf = s.kvBuf
  kvW : t.kvW = s.kvW
  phase : t.phase = s.phase
  need : t.need = s.need
  verValid : t.verValid = s.verValid
  ver : t.ver = s.ver
  err : t.err = s.err
  hdrReg : t.hdrReg = s.hdrReg
  bodyBuf : t.bodyBuf = s.bodyBuf
  supplyPort : t.supplyPort = s.supplyPort
  events : t.events = []

/-- On the way from `s` to `u` nothing has been signalled either. -/
structure StillReading (s u : State) : Prop extends BlockKept s u where
  outputs : u.outputs = s.outputs

/-- The output that tells the result of KV_PARSE (R181, R182). -/
def parseOutput : Option Pairs → Output
  | some pairs => .kvDone pairs
  | none => .kvErr .headerBlockTruncated

/-- Some run from `u`, a state on the way of the block that began in `s`, ends the block with the
result `r`: one output since `s`, the KV unit idle, and all else as in `s`. -/
def Delivers (s u : State) (r : Option Pairs) : Prop :=
  ∃ (n : Nat) (t : State), Host.Core.run core n u = .next t ∧
    t.outputs = s.outputs ++ [parseOutput r] ∧ t.kvPairs = r.getD [] ∧ t.kvState = .idle ∧
    BlockKept s t

theorem run_succ {u u' : State} (h : step u = .next u') (n : Nat) :
    Host.Core.run core (n + 1) u = Host.Core.run core n u' := by
  simp only [Host.Core.run, show core.step = step from rfl, h]

section
variable {s u u' : State} {r : Option Pairs}

theorem delivers_of_step (hstep : step u = .next u') (h : Delivers s u' r) : Delivers s u r := by
  obtain ⟨n, t, hrun, hend⟩ := h
  exact ⟨n + 1, t, (run_succ hstep n).trans hrun, hend⟩

section
variable (h : StillReading s u)
include h

theorem delivers_kvComplete : Delivers s (kvComplete u) (some u.kvPairs) :=
  ⟨0, _, rfl, by rw [kvComplete_outputs, h.outputs]; rfl, rfl, rfl, { h with }⟩

theorem delivers_kvFailTruncated : Delivers s (kvFailTruncated u) none :=
  ⟨0, _, rfl, by rw [kvFailTruncated_outputs, h.outputs]; rfl, rfl, rfl, { h with }⟩

/-! ### One read step is one read of KV_PARSE -/

/-- A KV_W step ends the block where `memRead` has no value, else the run goes on with the value. -/
theorem delivers_readPrefix {k : BitVec 32 → State → State} {f : Nat → Option Pairs} {w : Nat}
    (hw : widthBytes s.kvW = w) (hstep : step u = readPrefix k u)
    (hnext : ∀ x (reg : BitVec 32), reg.toNat = x →
      Delivers s (k reg { u with kvPos := u.kvPos + w }) (f x)) :
    Delivers s u ((memRead s.kvBuf u.kvPos w).bind f) := by
  subst hw
  cases hread : memRead s.kvBuf u.kvPos (widthBytes s.kvW) with
  | none =>
    rw [memRead_eq_none, ← h.kvBuf, ← h.kvW] at hread
    exact delivers_of_step (hstep.trans (readPrefix_of_short k hread))
      (delivers_kvFailTruncated h)
  | some x =>
    obtain ⟨hlen, rfl⟩ := memRead_eq_some.1 hread
    have hgoes := hnext _ _ (fieldValue_toNat s.kvBuf u.kvPos s.kvW)
    rw [← h.kvBuf, ← h.kvW] at hlen hgoes ⊢
    exact delivers_of_step (hstep.trans (readPrefix_of_available k hlen)) hgoes

/-- A string step ends the block where `memSlice` has no value, else the run goes on with the bytes. -/
theorem delivers_readString {k : Bytes → State → State} {f : Bytes → Option Pairs} {n : Nat}
    (hstep : step u = readString n k u)
    (hnext : ∀ x, Delivers s (k x { u with kvPos := u.kvPos + n }) (f x)) :
    Delivers s u ((memSlice s.kvBuf u.kvPos n).bind f) := by
  cases hread : memSlice s.kvBuf u.kvPos n with
  | none =>
    rw [memSlice_eq_none, ← h.kvBuf] at hread
    exact delivers_of_step (hstep.trans (readString_of_short k hread))
      (delivers_kvFailTruncated h)
  | some x =>
    obtain ⟨hlen, rfl⟩ := memSlice_eq_some.1 hread
    have hgoes := hnext (slice s.kvBuf u.kvPos n)
    rw [← h.kvBuf] at hlen hgoes ⊢
    exact delivers_of_step (hstep.trans (readString_of_available k hlen)) hgoes

end
end

/-! ### The loop -/

/-- One pair, from NLEN: where its four reads have values the run comes to the end of the value, with
the pair inserted and KV_REM counted down. The record updates of the steps are folded into one after
each step. -/
theorem delivers_pair {s u : State} (hw : widthBytes s.kvW = widthBytes (widthOf s.ver))
    (h : StillReading s u) (hk : u.kvState = .nlen) {rem : Nat}
    (hrest : ∀ u' : State, StillReading s u' → u'.kvRem = u.kvRem - 1 →
      Delivers s (nextPair u') (kvLoop s.kvBuf s.ver rem u'.kvPos u'.kvPairs)) :
    Delivers s u (kvLoop s.kvBuf s.ver (rem + 1) u.kvPos u.kvPairs) := by
  rw [kvLoop_succ]
  refine delivers_readPrefix h hw (step_nlen h.events hk) ?_
  rintro _ nlen rfl
  dsimp only
  refine delivers_readString (by exact { h with }) (step_name (by exact h.events) rfl) ?_
  intro name
  dsimp only
  refine delivers_readPrefix (by exact { h with }) hw (step_vlen (by exact h.events) rfl) ?_
  rintro _ vlen rfl
  dsimp only
  refine delivers_readString (by exact { h with }) (step_value (by exact h.events) rfl) ?_
  intro value
  dsimp only
  rw [congrArg (strip name) h.ver]
  exact hrest _ (by exact { h with }) rfl

/-- From the end of a count or of a value, with `rem` pairs to come, the run delivers what the loop of
KV_PARSE gives from there. -/
theorem delivers_nextPair {s u : State} (hw : widthBytes s.kvW = widthBytes (widthOf s.ver))
    (h : StillReading s u) {rem : Nat} (hrem : u.kvRem.toNat = rem) :
    Delivers s (nextPair u) (kvLoop s.kvBuf s.ver rem u.kvPos u.kvPairs) := by
  induction rem generalizing u with
  | zero =>
    rw [nextPair_of_last (BitVec.eq_of_toNat_eq hrem)]
    exact delivers_kvComplete h
  | succ rem ih =>
    have hmore : u.kvRem ≠ 0 := by rintro hz; rw [hz] at hrem; cases hrem
    have hdown : (u.kvRem - 1).toNat = rem := by bv_omega
    rw [nextPair_of_more hmore]
    refine delivers_pair hw (by exact { h with }) rfl fun u' h' hr => ih h' ?_
    rw [hr]; exact hdown

/-- Settles O35: the COUNT step reads the count, and the loop's run follows. -/
theorem kvStepsComputeKvParse : Obligations.KvStepsComputeKvParse := by
  intro s hev hk hpos hpairs hwidth
  have hstart : StillReading s s :=
    ⟨⟨rfl, rfl, rfl, rfl, rfl, rfl, rfl, rfl, rfl, rfl, hev⟩, rfl⟩
  have hw : widthBytes s.kvW = widthBytes (widthOf s.ver) := by rw [hwidth]
  have hdelivers : Delivers s s (kvParse s.kvBuf s.ver) := by
    rw [kvParse_eq_bind, ← hpos]
    refine delivers_readPrefix hstart hw (step_count hev hk) fun count reg hreg => ?_
    rw [hpos, Nat.zero_add, ← hpairs]
    exact delivers_nextPair hw (by exact { hstart with }) hreg
  obtain ⟨n, t, hrun, hout, hlist, hidle, hend⟩ := hdelivers
  exact ⟨n, t, hrun, hout, hlist, hidle, hend.kvBuf, hend.phase, hend.need, hend.verValid, hend.ver,
    hend.err, hend.hdrReg, hend.bodyBuf, hend.supplyPort, hend.events⟩

end Sys2Proof.Proofs
end

section
/-! SUPPORT. The reference body decoder's moves (43_dispatch.md R212 to R224): the fields it reads
as numbers, its first move on a body, and the transaction it presents. -/

namespace Sys2Proof.Proofs

open Sys2Proof.Machine Sys2Proof.Laws Sys2Proof.Safety

/-! ### The fields of a body (R8) -/

theorem field32_toNat (b : Bytes) (off : Nat) : (field32 b off).toNat = be b off 4 := by
  rw [field32, BitVec.toNat_ofNat]
  exact Nat.mod_eq_of_lt (be_lt b off 4)

theorem field31_toNat (b : Bytes) (off : Nat) : (field31 b off).toNat = be b off 4 % 2 ^ 31 :=
  BitVec.toNat_ofNat _ _

/-- A read within a string is the string's bytes, one by one. -/
theorem slice_eq_map_getD {b : Bytes} {off n : Nat} (h : off + n ≤ b.length) :
    slice b off n = (List.range n).map fun i => b.getD (off + i) 0 := by
  apply List.ext_getElem
  · simp [slice]; omega
  · intro i _ hi
    have hi : i < n := by simpa using hi
    simp [slice, List.getElem?_eq_getElem (show off + i < b.length by omega)]

theorem be_one {b : Bytes} {off : Nat} (h : off + 1 ≤ b.length) :
    be b off 1 = (b.getD off 0).toNat := by
  simp [be, slice_eq_map_getD h, beAll]

theorem be_four {b : Bytes} {off : Nat} (h : off + 4 ≤ b.length) :
    be b off 4 = (b.getD off 0).toNat * 2 ^ 24 + (b.getD (off + 1) 0).toNat * 2 ^ 16 +
      (b.getD (off + 2) 0).toNat * 2 ^ 8 + (b.getD (off + 3) 0).toNat := by
  rw [be, slice_eq_map_getD h]
  simp [List.range_succ, beAll, -List.getD_eq_getElem?_getD]
  omega

theorem le_four {b : Bytes} {off : Nat} (h : off + 4 ≤ b.length) :
    le b off 4 = (b.getD off 0).toNat + (b.getD (off + 1) 0).toNat * 2 ^ 8 +
      (b.getD (off + 2) 0).toNat * 2 ^ 16 + (b.getD (off + 3) 0).toNat * 2 ^ 24 := by
  rw [le, slice_eq_map_getD h]
  simp [List.range_succ, beAll, -List.getD_eq_getElem?_getD]
  omega

theorem le_lt (b : Bytes) (off n : Nat) : le b off n < 256 ^ n := by
  refine (beAll_lt _).trans_le (Nat.pow_le_pow_right (by decide) ?_)
  rw [List.length_reverse]
  exact slice_length_le b off n

/-! ### The classes with a fixed layout (R214, R217, R218, R220, R221) -/

theorem decodeRstStream_of_length {b : Bytes} (h : 8 ≤ b.length) :
    decodeRstStream b = .done (.rstStream (field31 b 0) (field32 b 4)
      (if b.length = 8 then none else some (b.drop 8))) := by
  rw [decodeRstStream, if_neg h.not_gt]
  rcases h.eq_or_lt with heq | hlt
  · rw [if_neg heq.not_lt, if_pos heq.symm]
  · rw [if_pos hlt, if_neg hlt.ne']

theorem decodeWindowUpdate_of_length {b : Bytes} (h : 8 ≤ b.length) :
    decodeWindowUpdate b = .done (.windowUpdate (field31 b 0) (field31 b 4)) :=
  if_neg h.not_gt

theorem decodePing_of_four_le {b : Bytes} (h : 4 ≤ b.length) :
    decodePing b = .done (.ping (field32 b 0)) :=
  if_neg h.not_gt

theorem decodeGoaway_of_length {b : Bytes} (h : 4 ≤ b.length) :
    decodeGoaway b = .done (.goaway (field31 b 0)) :=
  if_neg h.not_gt

theorem decodeXForwarded_of_length {b : Bytes} (h : 4 ≤ b.length)
    (hhost : 4 + be b 0 4 ≤ b.length) :
    decodeXForwarded b = .done (.xForwarded (slice b 4 (be b 0 4))) := by
  rw [decodeXForwarded, if_neg h.not_gt, if_neg hhost.not_gt]

/-- Settles O57: each decoder past its length check, with its fields as numbers. -/
theorem referenceDecoderReadsFixedFields : Obligations.ReferenceDecoderReadsFixedFields := by
  intro v b
  refine ⟨fun h => ⟨⟨_, _, decodeRstStream_of_length h, ?_, ?_⟩,
      ⟨_, _, decodeWindowUpdate_of_length h, ?_, ?_⟩⟩,
    fun h => ⟨⟨_, decodePing_of_four_le h, ?_⟩, ⟨_, decodeGoaway_of_length h, ?_⟩⟩,
    fun hhost h => decodeXForwarded_of_length h hhost⟩
  · exact field31_toNat b 0
  · exact field32_toNat b 4
  · exact field31_toNat b 0
  · exact field31_toNat b 4
  · exact field32_toNat b 0
  · exact field31_toNat b 0

/-! ### The KV port (R223, R224) -/

theorem startKv_eq_kvStart_iff {c : BodyClass} {v : BitVec 15} {b kv : Bytes} :
    startKv c v b = .kvStart kv ↔ kvOffset c v ≤ b.length ∧ kv = b.drop (kvOffset c v) := by
  unfold startKv
  split
  · exact ⟨nofun, fun h => absurd h.1 (Nat.not_le.2 ‹_›)⟩
  · simp [Nat.le_of_not_lt ‹_›, eq_comm]

theorem decodeBody_of_usesKv {c : BodyClass} (h : usesKv c = true) (v : BitVec 15) (b : Bytes) :
    decodeBody c v b = startKv c v b := by
  cases c with
  | synStream | synReply | headers => rfl
  | rstStream | settings | ping | goaway | windowUpdate | xForwarded => cases h

/-- A class without a KV block answers at once, with its frame or with an error. -/
theorem decodeBody_ne_kvStart {c : BodyClass} (h : usesKv c = false) (v : BitVec 15)
    (b kv : Bytes) : decodeBody c v b ≠ .kvStart kv := by
  cases c with
  | synStream | synReply | headers => cases h
  | rstStream | ping | goaway | windowUpdate =>
    simp only [decodeBody, decodeRstStream, decodePing, decodeGoaway, decodeWindowUpdate]
    split <;> nofun
  | settings | xForwarded =>
    simp only [decodeBody, decodeSettings, decodeXForwarded]
    split
    · nofun
    · split <;> nofun

/-- The classes of the KV port with their offsets (R210, R224). -/
theorem usesKv_iff_kvOffset (c : BodyClass) (v : BitVec 15) :
    usesKv c = true ↔ (c = .synStream ∧ kvOffset c v = 10) ∨
      ((c = .synReply ∨ c = .headers) ∧ kvOffset c v = if v = 2 then 6 else 4) := by
  cases c <;> simp [usesKv, kvOffset]

/-- Settles O56: a class of the KV port starts it behind the length check, any other answers. -/
theorem kvPortIsUsedByThreeClasses : Obligations.KvPortIsUsedByThreeClasses := by
  intro c v b kv
  rw [← usesKv_iff_kvOffset]
  cases h : usesKv c with
  | false => simp [decodeBody_ne_kvStart h]
  | true => simp [decodeBody_of_usesKv h, startKv_eq_kvStart_iff]

/-! ### Acceptance (R43, R45) -/

theorem controlField_of_headerDispatches {w : BitVec 64} (h : headerDispatches w = true) :
    controlField w = true := by
  by_contra hc
  rw [headerDispatches, classOf, if_neg hc] at h
  cases h

/-- A body being decoded has a control header, which has passed the version check (R136). -/
theorem verValid_of_busy {s : State} (h : BlockInv s) (hp : s.phase = .busy) :
    s.verValid = true :=
  h.control_pinned (.inr hp) ((hdrDecode_control _).trans
    (controlField_of_headerDispatches (h.busy_class hp)))

/-- While an answer is awaited and a version is pinned, every move is taken. -/
theorem accepted_moveEvent {s : State} (ha : awaitsBodyAnswer s = true) (hv : s.verValid = true)
    (m : DecoderMove) : accepted (moveEvent m) s = true := by
  cases m with
  | done | err => exact ha
  | kvStart => exact Bool.and_eq_true_iff.2 ⟨ha, hv⟩

/-- Settles O54: the decoder moves only where its answer is awaited, in BUSY. -/
theorem referenceDecoderMovesAreAccepted : Obligations.ReferenceDecoderMovesAreAccepted := by
  intro s m hinv hmove
  have ha := awaitsBodyAnswer_of_contractMove hmove
  have hv := verValid_of_busy hinv ((awaitsBodyAnswer_iff s).1 ha).1
  have hpresent : presentMove s = { s with events := moveEvent m :: s.events } := by
    rw [presentMove, hmove]
  rw [hpresent, step_cons rfl]
  exact (takeEvent_next_iff hinv (moveEvent m)).2 (accepted_moveEvent ha hv m)

end Sys2Proof.Proofs
end

section
/-! SUPPORT. The frames the reference body decoder builds from a header block (43_dispatch.md R212,
R213, R219): the names looked up in it and the fields of the body before it. -/

namespace Sys2Proof.Proofs

open Sys2Proof.Machine Sys2Proof.Laws

/-! ### Names in a header block -/

theorem lookupPair_eq_some_of_mem {h : Pairs} {name value : Bytes} (hd : (h.map Prod.fst).Nodup)
    (hmem : (name, value) ∈ h) : lookupPair h name = some value := by
  have hfind : h.find? (fun p => p.1 == name) = some (name, value) := by
    cases hf : h.find? (fun p => p.1 == name) with
    | none => exact absurd (beq_self_eq_true name) (List.find?_eq_none.1 hf _ hmem)
    | some q =>
      have hname : q.1 = name := eq_of_beq (List.find?_some hf :)
      rw [List.inj_on_of_nodup_map hd (List.mem_of_find?_eq_some hf) hmem hname]
  rw [lookupPair, hfind, Option.map_some]

theorem lookupPair_eq_none_of_not_mem {h : Pairs} {name : Bytes} (hn : name ∉ h.map Prod.fst) :
    lookupPair h name = none := by
  rw [lookupPair, Option.map_eq_none_iff, List.find?_eq_none]
  rintro p hp heq
  exact hn (List.mem_map.2 ⟨p, hp, eq_of_beq heq⟩)

theorem urlOf_of_path {h : Pairs} {p : Bytes} (hp : lookupPair h namePath = some p) :
    urlOf h = p := by
  rw [urlOf, hp]

theorem urlOf_of_no_path {h : Pairs} (hp : lookupPair h namePath = none) :
    urlOf h = (lookupPair h nameUrl).getD [] := by
  rw [urlOf, hp]
  cases lookupPair h nameUrl <;> rfl

/-! ### The priority field (R212) -/

theorem priority_toNat {b : Bytes} (h : 9 ≤ b.length) :
    ((b.getD 8 0).extractLsb' 5 3).toNat = be b 8 1 / 32 := by
  rw [toNat_extract, be_one h]
  have := (b.getD 8 0).isLt
  omega

/-- Settles O58: the id is the first field of the body, and names are distinct in a block. -/
theorem referenceDecoderBuildsKvFrames : Obligations.ReferenceDecoderBuildsKvFrames := by
  intro flags b h hd
  refine ⟨field31 b 0, urlOf h, fun p hp => urlOf_of_path (lookupPair_eq_some_of_mem hd hp),
    fun hpath => ?_, fun _ => ⟨field31_toNat b 0, rfl, rfl⟩,
    fun hlen => ⟨_, _, field31_toNat b 4, priority_toNat (by omega), rfl⟩⟩
  rw [urlOf_of_no_path (lookupPair_eq_none_of_not_mem hpath)]
  refine ⟨fun u hu => ?_, fun hurl => ?_⟩
  · rw [nameUrl, lookupPair_eq_some_of_mem hd hu, Option.getD_some]
  · rw [nameUrl, lookupPair_eq_none_of_not_mem hurl, Option.getD_none]

end Sys2Proof.Proofs
end

section
/-! SUPPORT. The SETTINGS frame (43_dispatch.md R215): the id and flags word of an entry, a map kept
in rising order of its ids, and the map of the first entries of a body. -/

namespace Sys2Proof.Proofs

open Sys2Proof.Machine Sys2Proof.Laws

/-! ### The entries' words and the length check -/

theorem settingWord_toNat (v : BitVec 15) (b : Bytes) (k : Nat) :
    (settingWord v b k).toNat =
      if v = 2 then le b (4 + 8 * k) 4 else be b (4 + 8 * k) 4 := by
  rw [settingWord, BitVec.toNat_ofNat]
  apply Nat.mod_eq_of_lt
  split
  · exact le_lt b _ 4
  · exact be_lt b _ 4

theorem decodeSettings_of_length {v : BitVec 15} {b : Bytes} (h : 4 ≤ b.length)
    (hcount : 4 + 8 * be b 0 4 ≤ b.length) :
    decodeSettings v b = .done (.settings (settingsMap v b (be b 0 4))) := by
  rw [decodeSettings, if_neg h.not_gt, if_neg hcount.not_gt]

/-! ### A map in rising order of its ids -/

/-- A settings map as a list: each id once, the ids rising. -/
def IdsRise (m : List (BitVec 24 × SettingsEntry)) : Prop :=
  m.Pairwise fun p q => p.1.toNat < q.1.toNat

/-- An insertion leaves the other ids alone. -/
theorem mem_insertSetting_of_ne {id : BitVec 24} {q : BitVec 24 × SettingsEntry} (hq : q.1 ≠ id)
    (e : SettingsEntry) (m : List (BitVec 24 × SettingsEntry)) :
    q ∈ insertSetting id e m ↔ q ∈ m := by
  have hne (x : SettingsEntry) : q ≠ (id, x) := fun heq => hq (congrArg Prod.fst heq)
  induction m with
  | nil => simp [insertSetting, hne]
  | cons p rest ih =>
    obtain ⟨j, y⟩ := p
    simp only [insertSetting]
    split
    · subst j
      simp [hne]
    · split
      · simp [hne]
      · simp [ih]

theorem idsRise_insertSetting {m : List (BitVec 24 × SettingsEntry)} (h : IdsRise m)
    (id : BitVec 24) (e : SettingsEntry) : IdsRise (insertSetting id e m) := by
  induction m with
  | nil => exact List.pairwise_singleton _ _
  | cons p rest ih =>
    obtain ⟨hp, hrest⟩ := List.pairwise_cons.1 h
    rw [insertSetting]
    split
    · rename_i heq
      exact List.pairwise_cons.2 ⟨heq ▸ hp, hrest⟩
    · split
      · rename_i hlt
        refine List.pairwise_cons.2 ⟨fun q hq => ?_, h⟩
        rcases List.mem_cons.1 hq with rfl | hq
        · exact hlt
        · exact hlt.trans (hp q hq)
      · refine List.pairwise_cons.2 ⟨fun q hq => ?_, ih hrest⟩
        by_cases hid : q.1 = id
        · rw [hid]; bv_omega
        · exact hp q ((mem_insertSetting_of_ne hid e rest).1 hq)

/-- An insertion sets its own id, which a rising map holds no second time. -/
theorem mem_insertSetting_self {m : List (BitVec 24 × SettingsEntry)} (h : IdsRise m)
    (id : BitVec 24) (e x : SettingsEntry) : (id, x) ∈ insertSetting id e m ↔ x = e := by
  induction m with
  | nil => simp [insertSetting]
  | cons p rest ih =>
    obtain ⟨j, y⟩ := p
    obtain ⟨hp, hrest⟩ := List.pairwise_cons.1 h
    have hafter (hle : id.toNat ≤ j.toNat) : (id, x) ∉ rest := fun hq => (hp _ hq).not_ge hle
    simp only [insertSetting]
    split
    · subst j
      simp [hafter (Nat.le_refl _)]
    · rename_i hne
      split
      · simp [hne, hafter (Nat.le_of_lt ‹_›)]
      · simp [hne, ih hrest]

/-! ### The map of the first entries -/

/-- The id of entry `k`. -/
def settingId (v : BitVec 15) (b : Bytes) (k : Nat) : BitVec 24 :=
  (settingWord v b k).extractLsb' 0 24

/-- The value and flags of entry `k`. -/
def settingEntry (v : BitVec 15) (b : Bytes) (k : Nat) : SettingsEntry :=
  { value := field32 b (4 + 8 * k + 4)
    persist := (settingWord v b k).getLsbD 24
    persisted := (settingWord v b k).getLsbD 25 }

theorem settingsMap_succ (v : BitVec 15) (b : Bytes) (n : Nat) :
    settingsMap v b (n + 1) =
      insertSetting (settingId v b n) (settingEntry v b n) (settingsMap v b n) := rfl

theorem idsRise_settingsMap (v : BitVec 15) (b : Bytes) (n : Nat) :
    IdsRise (settingsMap v b n) := by
  induction n with
  | zero => exact List.Pairwise.nil
  | succ n ih => exact idsRise_insertSetting ih _ _

/-- Entry `k` is the last of the first `n` with the id `id`. -/
def LastWithId (v : BitVec 15) (b : Bytes) (n : Nat) (id : BitVec 24) (k : Nat) : Prop :=
  k < n ∧ settingId v b k = id ∧ ∀ j, k < j → j < n → settingId v b j ≠ id

/-- One entry more: it is the last of its own id, and no other id's last entry changes. -/
theorem lastWithId_succ {v : BitVec 15} {b : Bytes} {n : Nat} {id : BitVec 24} {k : Nat} :
    LastWithId v b (n + 1) id k ↔
      if id = settingId v b n then k = n else LastWithId v b n id k := by
  split
  · rename_i hid
    refine ⟨fun ⟨hk, _, hlast⟩ => ?_, ?_⟩
    · by_contra hne
      exact hlast n (by omega) n.lt_succ_self hid.symm
    · rintro rfl
      exact ⟨k.lt_succ_self, hid.symm, fun j hkj hj => by omega⟩
  · rename_i hid
    refine ⟨fun ⟨hk, hmatch, hlast⟩ => ⟨?_, hmatch, fun j hkj hj => hlast j hkj (by omega)⟩,
      fun ⟨hk, hmatch, hlast⟩ => ⟨by omega, hmatch, fun j hkj hj => ?_⟩⟩
    · have hne : k ≠ n := by rintro rfl; exact hid hmatch.symm
      omega
    · rcases Nat.lt_succ_iff_lt_or_eq.1 hj with hj | rfl
      · exact hlast j hkj hj
      · exact Ne.symm hid

theorem mem_settingsMap (v : BitVec 15) (b : Bytes) (n : Nat) (id : BitVec 24) (x : SettingsEntry) :
    (id, x) ∈ settingsMap v b n ↔ ∃ k, LastWithId v b n id k ∧ x = settingEntry v b k := by
  induction n with
  | zero => simp [settingsMap, LastWithId]
  | succ n ih =>
    rw [settingsMap_succ]
    simp only [lastWithId_succ]
    split
    · subst id
      simp [mem_insertSetting_self (idsRise_settingsMap v b n)]
    · rw [mem_insertSetting_of_ne ‹_›, ih]

/-- Settles O59: the map's insertions, one per entry, keep the ids rising and the last entry. -/
theorem settingsKeepTheLastEntryOfAnId : Obligations.SettingsKeepTheLastEntryOfAnId := by
  intro v b
  refine ⟨fun h hcount => decodeSettings_of_length h hcount, settingWord_toNat v b,
    fun k hk => ?_, fun n => ⟨List.pairwise_map.2 (idsRise_settingsMap v b n), fun id x => ?_⟩⟩
  · rw [settingWord_toNat, le_four (by omega), be_four (by omega)]
    rfl
  · exact (mem_settingsMap v b n id x).trans (by
      simp only [LastWithId, settingId, settingEntry, field32, and_assoc])

end Sys2Proof.Proofs
end

section
/-! SUPPORT. The error phases (60_exceptions.md R257, R258): what a step from ERROR or FATAL can do to
PHASE and ERR, and that it signals no FAIL. -/

namespace Sys2Proof.Proofs

open Sys2Proof.Machine Sys2Proof.Laws Sys2Proof.Safety

/-! ### PHASE and ERR -/

@[simp] theorem nextPair_phase (s : State) : (nextPair s).phase = s.phase := by
  rcases nextPair_cases s with ⟨-, heq⟩ | ⟨-, heq⟩ <;> simp [heq]

@[simp] theorem nextPair_err (s : State) : (nextPair s).err = s.err := by
  rcases nextPair_cases s with ⟨-, heq⟩ | ⟨-, heq⟩ <;> simp [heq]

section
variable {s t : State}

/-- A truncated block is the KV unit's own error, not the controller's: PHASE and ERR stay (R182). -/
theorem kvStep_keeps_phase_err (hstep : kvStep s = .next t) :
    t.phase = s.phase ∧ t.err = s.err := by
  rcases kvStep_cases hstep with ⟨-, rfl⟩ | ⟨-, rfl⟩ | ⟨-, -, rfl⟩ | ⟨-, -, rfl⟩ | ⟨-, -, rfl⟩ |
    ⟨-, -, rfl⟩ | ⟨-, -, rfl⟩ <;> simp

/-- A step from an error phase holds PHASE and ERR, is RESUME, which keeps ERR and comes in ERROR only,
or is RESET: the changes that raise an error or end a frame begin in HDR, BODY or BUSY (R139, R257). -/
theorem step_of_error_phase (hp : s.phase = .error ∨ s.phase = .fatal) (hstep : step s = .next t) :
    (t.phase = s.phase ∧ t.err = s.err) ∨
    (s.events.head? = some .resume ∧ s.phase = .error ∧ t.err = s.err) ∨
    s.events.head? = some .reset := by
  obtain ⟨port, -, hc⟩ := step_cases hstep
  cases hc with
  | header _ _ _ _ hother | body _ _ _ hother | bodyDone _ _ hother | bodyErr _ _ hother
  | kvStart _ _ hother => rcases hp with hp | hp <;> cases hp.symm.trans hother
  | kv _ _ _ hkv => exact .inl (kvStep_keeps_phase_err hkv :)
  | resume he herror => exact .inr (.inl ⟨he, herror, rfl⟩)
  | reset he => exact .inr (.inr he)
  | idle | decompOk | overflow | decompErr | withdraw => exact .inl ⟨rfl, rfl⟩

/-- Settles O42: from FATAL the step cannot be RESUME, so it holds PHASE or is RESET. -/
theorem errorPhasesAreLeftOnlyByTheCaller : Obligations.ErrorPhasesAreLeftOnlyByTheCaller := by
  intro s t hstep
  refine ⟨fun hp => ?fatal, fun hp => ?error⟩
  case fatal =>
    rcases step_of_error_phase (.inr hp) hstep with ⟨hphase, -⟩ | ⟨-, herror, -⟩ | hreset
    · exact .inl (hphase.trans hp)
    · exact absurd (hp.symm.trans herror) nofun
    · exact .inr hreset
  case error =>
    rcases step_of_error_phase (.inl hp) hstep with ⟨hphase, -⟩ | ⟨hresume, -, -⟩ | hreset
    · exact .inl (hphase.trans hp)
    · exact .inr (.inr hresume)
    · exact .inr (.inl hreset)

/-! ### No FAIL -/

/-- A FAIL ends a frame, so an output that ends none leaves the count. -/
theorem failCount_of_signalled {o : Option Output} (h : t.outputs = s.outputs ++ o.toList)
    (hend : outputEndsFrame o = false) : failCount t = failCount s := by
  rw [failCount, failCount, h, List.filter_append, List.length_append]
  cases o with
  | none => rfl
  | some x =>
    cases x with
    | emit | fail => cases hend
    | dispatch | decompReq | kvDone | kvErr => rfl

/-- In an error phase there is no frame in flight to end. -/
theorem not_endsFrame_of_error_phase {e : Option Event} {p : Phase} {n : BitVec 24}
    {o : Option Output} (hp : p = .error ∨ p = .fatal) (hmove : FrameMove e p n o t) :
    outputEndsFrame o = false := by
  cases hmove with
  | stays hend | header hend | dispatch hend | restart hend => exact hend
  | emit _ hother | fail _ hother => rcases hp with rfl | rfl <;> simp at hother

end

/-- Settles O43: the step's output ends no frame, and every change but RESET keeps ERR. -/
theorem errorsDoNotNest : Obligations.ErrorsDoNotNest := by
  intro s t hp hstep
  obtain ⟨o, ho, hmove⟩ := follows_step hstep
  refine ⟨failCount_of_signalled ho (not_endsFrame_of_error_phase hp hmove), ?_⟩
  rcases step_of_error_phase hp hstep with ⟨-, herr⟩ | ⟨-, -, herr⟩ | hreset
  · exact .inl herr
  · exact .inl herr
  · exact .inr hreset

end Sys2Proof.Proofs
end

section
/-! SUPPORT. When the reference body decoder answers FrameTruncated (60_exceptions.md R252,
43_dispatch.md R224): a class checks its length once, or first for a 4-byte length field and then for the
length that field tells. -/

namespace Sys2Proof.Proofs

open Sys2Proof.Machine

section
variable {m : DecoderMove} (hm : m ≠ .err .frameTruncated)
include hm

theorem lengthCheck_eq_truncated_iff (p : Prop) [Decidable p] :
    (if p then .err .frameTruncated else m) = .err .frameTruncated ↔ p := by
  simp [hm]

/-- The minimum `n` is read from the first 4 bytes, so it counts only where they are there. -/
theorem twoLengthChecks_eq_truncated_iff (len n : Nat) :
    (if len < 4 then .err .frameTruncated else if len < n then .err .frameTruncated else m) =
      .err .frameTruncated ↔ len < if len < 4 then 4 else n := by
  split
  · exact iff_of_true rfl ‹_›
  · exact lengthCheck_eq_truncated_iff hm _

end

/-- Settles O55: class by class, the one length check or the two. -/
theorem frameTruncatedBelowTheMinimum : Obligations.FrameTruncatedBelowTheMinimum := by
  intro c v b
  cases c with
  | synStream | synReply | headers | rstStream | ping | goaway | windowUpdate =>
    exact lengthCheck_eq_truncated_iff (by nofun) _
  | settings | xForwarded => exact twoLengthChecks_eq_truncated_iff (by nofun) _ _

end Sys2Proof.Proofs
end

section
/-! SUPPORT. RESET (70_reset_and_hazards.md R280, R281): the step it makes, and the views after it. -/

namespace Sys2Proof.Proofs

open Sys2Proof.Machine Sys2Proof.Laws

/-- RESET looks at no register: it is taken in every state (R280). -/
theorem step_reset {s : State} {e : List Event} (hev : s.events = .reset :: e) :
    step s = .next (resetOp { s with events := e }) :=
  step_cons hev

/-- STATUS is made of registers alone, all of which RESET writes (R38). -/
theorem statusView_resetOp (s : State) : statusView (resetOp s) = statusView State.reset :=
  rfl

/-- So is NEED_R: the port is ready by PHASE, whatever chunks wait on it (R38). -/
theorem needView_resetOp (s : State) : needView (resetOp s) = needView State.reset :=
  rfl

/-- With nothing presented, to come or signalled, no difference from power-on is left (R281). -/
theorem resetOp_eq_reset_of_no_transactions (s : State) :
    { resetOp s with supplyPort := [], events := [], outputs := [] } = State.reset :=
  rfl

/-- Settles O23: RESET's one step is `resetOp`, and the views after it are those at power-on. -/
theorem resetLeavesTheResetValues : Obligations.ResetLeavesTheResetValues := by
  intro s e hev
  obtain ⟨hstatus, hneed, -⟩ := statusViewsHoldTheirFields
  exact ⟨_, step_reset hev, rfl, rfl, rfl, rfl, rfl, rfl, rfl, rfl, rfl, resetOp_outputs _,
    (statusView_resetOp _).trans hstatus, (needView_resetOp _).trans hneed⟩

/-- Settles O24: `resetOp` keeps the transactions alone; R49's values are those `State.reset` writes. -/
theorem powerOnIsTheStateAfterReset : Obligations.PowerOnIsTheStateAfterReset := by
  refine ⟨fun s e hev => ?_, rfl, rfl, rfl, rfl, rfl, rfl, rfl, rfl, rfl⟩
  exact ⟨_, step_reset hev, resetOp_supplyPort _, resetOp_events _,
    resetOp_eq_reset_of_no_transactions _⟩

end Sys2Proof.Proofs
end
